-- ==== Sys2Proof/Word.lean ====
section
/-! DEFINITION. The two storage widths of the part: the byte and the 32-bit RAM word (00_scope.md, "Shared RAM"). -/

namespace Sys2Proof

/-- One byte, of RAM or of a frame on the air. -/
abbrev Byte := BitVec 8

/-- One 32-bit word, of RAM or of a register. -/
abbrev Word := BitVec 32

end Sys2Proof
end

