-- ==== Sys2Proof/Syntax.lean ====
section
/-! DEFINITION. The commands of the Bracfin 4180: one constructor for each row of spec/opcode_table.json. -/

namespace Sys2Proof

/-- A command or event that reaches the part. Host addresses are byte addresses of the 16 MiB window (R170). -/
inductive Instr where
  /-- POWER_ON_RESET (R184): the reset input. -/
  | powerOnReset
  /-- HOST_READ (R170, R171): the host reads the word at a window address. -/
  | hostRead (addr : BitVec 24)
  /-- HOST_WRITE (R170, R171): the host writes the word at a window address. -/
  | hostWrite (addr : BitVec 24) (data : Word)
  /-- SNOOP_READ (R161): a coherent-alias host read. -/
  | snoopRead (addr : BitVec 24)
  /-- SNOOP_WRITE (R162): a coherent-alias host write. -/
  | snoopWrite (addr : BitVec 24) (data : Word)
  /-- RUN, written to CONTROL (R175). -/
  | run
  /-- HALT, written to CONTROL (R175). -/
  | halt
  /-- RELOAD, written to CONTROL (R180). -/
  | reload
  /-- PUSH_ALL, written to CONTROL (R165). -/
  | pushAll
  /-- DROP_ALL, written to CONTROL (R167). -/
  | dropAll
  /-- CANCEL, written to CONTROL, with the argument byte of the word written (R52, R174). -/
  | cancel (ticket : BitVec 8)
  /-- RADIO_RESTART, written to CONTROL (R143). -/
  | radioRestart
  /-- UNDEFINED_COMMAND (R174): a CONTROL write with a code that is none of the seven commands. -/
  | undefinedCommand (code : BitVec 4)
  /-- NUDGE (R35): a write of any value to NUDGE. -/
  | nudge (value : Word)
  /-- ATTENTION_WRITE (R176). -/
  | attentionWrite (value : Word)
  /-- ATTN_ENABLE_WRITE (R177). -/
  | attnEnableWrite (value : Word)
  /-- STORE_TIME_WRITE (R20). -/
  | storeTimeWrite (value : Word)
  /-- OTHER_REGISTER_WRITE (R172): a write to IDENT, the register with no write behaviour of its own. -/
  | otherRegisterWrite (value : Word)
  /-- SECOND_TICK (R18): the sub-second count passes 999 ms. -/
  | secondTick
  /-- TICKET_EXPIRY (R51): the Ticket Unit takes the expiry of the held ticket in a board slot. -/
  | ticketExpiry (slot : BitVec 5)
  /-- CYCLE_START (R22). -/
  | cycleStart
  /-- BEACON_SENSE (R130), with what the channel sense finds. -/
  | beaconSense (busy : Bool)
  /-- SLOT_START (R22): the next wake slot starts. -/
  | slotStart
  /-- SLOT_SENSE (R133), with what the channel sense finds. -/
  | slotSense (busy : Bool)
  /-- TURN_START (R136): the start time of a turn of the slot, by its number. -/
  | turnStart (turn : BitVec 3)
  /-- FRAME_SENT (R129): the last bit of the frame being sent has gone. -/
  | frameSent
  /-- REPLY_WINDOW_OPEN (R136): the reply window of the turn in progress opens. -/
  | replyWindowOpen
  /-- REPLY_RECEIVED (R138): a frame, given byte by byte, has arrived within the open window. -/
  | replyReceived (frame : List Byte)
  /-- REPLY_WINDOW_CLOSE (R137): the reply window closes with no frame arrived. -/
  | replyWindowClose
  /-- SLOT_END (R140): the wake slot in progress ends. -/
  | slotEnd
  /-- KEY_MONITOR_TRIP (R142): the measure of continuous keying reaches 25 ms. -/
  | keyMonitorTrip
  /-- SWEEP_TIMER_EXPIRY (R35). -/
  | sweepTimerExpiry
  /-- SWEEP (R35): the Ticket Unit makes the sweep in progress. -/
  | sweep
  /-- CARD_READ (R62): the walker's next step, NEXT_CARD or REPEAT_CARD. -/
  | cardRead
  /-- SPAN_ITERATION (R78): the walker's next step, NEXT_ITERATION. -/
  | spanIteration
  /-- ROOM_STALL_RETRY (R71). -/
  | roomStallRetry
  /-- TURN_STALL_RETRY (R72). -/
  | turnStallRetry
  /-- PORT_GRANT (R150): the cache port arbiter grants the highest-ranked waiting request. -/
  | portGrant
  /-- FILL_INSTALL (R153): all four quarters of the fill in progress have arrived. -/
  | fillInstall
  /-- FILL_ABANDON (R155): the fill in progress has met a parity fault. -/
  | fillAbandon
  /-- LOAD_CHECK (R181): the Loader reads and checks the header and settings, and the load ends. -/
  | loadCheck
  deriving DecidableEq, Repr

end Sys2Proof
end

