-- ==== Sys2Proof/WellFormed.lean ====
section
/-! DEFINITION. Which terms of `Instr` a sender can form: the checks that an operand's type leaves open. -/

namespace Sys2Proof

/-- A host access names a word-aligned address: the link has word-address lines alone (09_host_link…, "Signals"). -/
def wordAligned (addr : BitVec 24) : Bool := addr.toNat % 4 == 0

/-- The addresses of the coherent alias (R170). -/
def inCoherentWindow (addr : BitVec 24) : Bool := decide (addr.toNat < 0x400000)

/-- The command codes that are none of the seven commands: 0 and 8 to 15 (10_memory_layouts.md, "Registers"). -/
def isUndefinedCode (code : BitVec 4) : Bool := code.toNat == 0 || decide (8 ≤ code.toNat)

/-- The numbers of the six turns of a slot (R115). -/
def isTurnNumber (turn : BitVec 3) : Bool := decide (1 ≤ turn.toNat) && decide (turn.toNat ≤ 6)

/-- A command is well formed when every operand lies in the range its row gives it. -/
def Instr.wf : Instr → Bool
  | .hostRead addr => wordAligned addr
  | .hostWrite addr _ => wordAligned addr
  | .snoopRead addr => wordAligned addr && inCoherentWindow addr
  | .snoopWrite addr _ => wordAligned addr && inCoherentWindow addr
  | .undefinedCommand code => isUndefinedCode code
  | .turnStart turn => isTurnNumber turn
  | .replyReceived frame => !frame.isEmpty
  | .powerOnReset | .run | .halt | .reload | .pushAll | .dropAll | .cancel _ | .radioRestart
  | .nudge _ | .attentionWrite _ | .attnEnableWrite _ | .storeTimeWrite _ | .otherRegisterWrite _
  | .secondTick | .ticketExpiry _ | .cycleStart | .beaconSense _ | .slotStart | .slotSense _
  | .frameSent | .replyWindowOpen | .replyWindowClose | .slotEnd | .keyMonitorTrip
  | .sweepTimerExpiry | .sweep | .cardRead | .spanIteration | .roomStallRetry | .turnStallRetry
  | .portGrant | .fillInstall | .fillAbandon | .loadCheck => true

end Sys2Proof
end

