-- ==== Sys2Proof/Config.lean ====
section
/-! DEFINITION. The constants the manual fixes, and the FREE VALUES: results the manual leaves open, each an opaque
constant with no body, so that nothing proved of the model can depend on what it is. -/

namespace Sys2Proof.Config

/-- 4 MiB of shared RAM, in bytes. -/
def ramBytes : Nat := 4194304

/-- Cards of 32 bytes in the RAM (R57). -/
def ramCards : Nat := 131072

/-- The highest price, in minor currency units (00_scope.md, "Prices"). -/
def maxPrice : Nat := 9999999

/-- The label identifier that marks a damaged record (R3, R4). -/
def badIdentifier : BitVec 24 := 16777215#24

/-- Seconds of a day (R21). -/
def secondsPerDay : Nat := 86400

/-- Milliseconds of a beacon period (R22). -/
def beaconMs : Nat := 256

/-- Milliseconds of a wake slot (R22). -/
def slotMs : Nat := 60

/-- Milliseconds of continuous keying at which the Key Monitor trips (R142). -/
def keyLimitMs : Nat := 25

/-- Entries the Roster holds at most (R105). -/
def rosterPlaces : Nat := 4096

/-- Entries of OVERNIGHT tickets the Roster holds at most (R105). -/
def overnightPlaces : Nat := 3840

/-- Turns of one wake slot at most (R115). -/
def turnsPerSlot : Nat := 6

/-- Lost slots in a row at which CHANNEL_BUSY is latched (R133). -/
def busyThreshold : Nat := 16

/-- The value IDENT reads: part code 0x4180 in bits 16–31, revision 1 in bits 0–7 (R172, 10_memory_layouts.md). -/
def identWord : Word := 0x41800001#32

/-- The header signature (R179). -/
def signature : Word := 0x41805A5A#32

/-- The stored form of an absent card number or stop card (R186). -/
def absentWord : Word := 0xFFFFFFFF#32

/-- FREE VALUE (log 3): whether a RAM word that nothing has written since power-on number `gen` carries a parity
fault. R17, R56 and R184 leave the parity of the RAM after power-on undefined. -/
opaque powerOnFault (gen word : Nat) : Bool

/-- FREE VALUE (log 4): the word stored for a delivery-tally sum that does not fit 32 bits. R55 says that `entered` is
rewritten as the sum, and R32 makes a tally a 32-bit count. -/
opaque overflowedTally (sum : Nat) : BitVec 32

/-- FREE VALUE (log 5): whether the partner price of a confirmation's Q2 is read as that of a DIGIT label, when the Q2
read was served from the line read buffer without Q0. R122 needs the label's kind, and the read names Q2 alone. -/
opaque unreadKindIsDigit (index : Nat) (partner : Nat) : Bool

/-- FREE VALUE (log 6): whether a walk resumed from a resume area whose next step is none that can be taken (code 3, or
NEXT_ITERATION without a span frame) reads its card as REPEAT_CARD. R187 reads such an area "as it stands". -/
opaque resumeStepRepeats (area0 : BitVec 32) : Bool

/-- FREE VALUE (log 7): the exit link, as bits 0–18 of a link word, of a span that ends with no exit link recorded, which
only a resume area rewritten by the host can bring about (R78, R187). -/
opaque absentExitLink (body : Nat) : BitVec 19

end Sys2Proof.Config
end

