-- ==== Sys2Proof/Machine/State.lean ====
section
/-! DEFINITION. The state of the part, block by block as the manual's table "Functional Blocks" lists them, and its value
after power-on reset (R184). Plain data throughout. -/

namespace Sys2Proof.Machine

/-! ## Outcomes that stop -/

/-- No step of this model faults: every access the manual describes has a meaning, addresses that reach nothing
included (R170). The type has no constructor. -/
inductive Fault where
  deriving DecidableEq, Repr

/-- Why a step has no meaning. -/
inductive Refusal where
  /-- Raised by `exec`'s arm of a row that has no meaning yet; safe: the model stops where the part goes on. -/
  | notModelled (mnemonic : String)
  deriving DecidableEq, Repr

/-! ## Enumerations -/

/-- The five run states (R178). -/
inductive RunState where
  | unloaded | loading | halted | running | loadFault
  deriving DecidableEq, Repr

/-- A command's result, as CONTROL shows it (R173, R174). -/
inductive CommandResult where
  | none | done | wrongState | noTime | notHeld | badArgument
  deriving DecidableEq, Repr

/-- The load fault codes (R181, R182). -/
inductive LoadFaultCode where
  | none | badSignature | badLayout | badRange | overlap | badChannel | memory
  deriving DecidableEq, Repr

/-- The commands that can be in progress (R175). -/
inductive ActiveCommand where
  | halt | reload | pushAll | dropAll
  | cancel (slot : Nat)
  deriving DecidableEq, Repr

/-- Where the Loader stands while the part is LOADING (R180 to R182). -/
inductive LoaderPhase where
  /-- no load is in progress -/
  | idle
  /-- step 4 of R180: the cache is being pushed -/
  | pushing
  /-- the cache is invalid; the header is read next -/
  | checking
  deriving DecidableEq, Repr

/-- The slot position (R22, R24). -/
inductive SlotPosition where
  | stopped
  | beacon
  | slot (s : Fin 64)
  deriving DecidableEq, Repr

/-- A rush state: CLOSED, or OPEN with its window day (R27). -/
inductive RushState where
  | closed
  | openDay (day : Nat)
  deriving DecidableEq, Repr

/-- A ticket's class (R32). -/
inductive TicketClass where
  | overnight | urgent
  deriving DecidableEq, Repr

/-- The states of a held ticket context (R34). -/
inductive ContextState where
  | queued | walking | parked | delivering
  deriving DecidableEq, Repr

/-- A ticket's outcome (R32). -/
inductive TicketOutcome where
  | complete | abridged | cancelled | expired | interrupted | malformed
  deriving DecidableEq, Repr

/-- The reasons of ABRIDGED and MALFORMED (10_memory_layouts.md, "Ticket Record"). -/
inductive Reason where
  | none | runaway | badLink | memory | depth | badClass | badChain | badLimit | badList | badTimes
  deriving DecidableEq, Repr

/-- A ticket's tallies: seven of applications (R46), then ten of deliveries (R47), in the order of the ticket record. -/
inductive Tally where
  | cardsRead | applied | unchanged | guarded | refused | vacant | faulted
  | entered | confirmed | unconfirmed | missed | noReply | rejected | superseded | cancelled | alreadyShown
  | interrupted
  deriving DecidableEq, Repr

/-- The kinds of exception entry (R48). -/
inductive ExceptionKind where
  | badKind | badTarget | badOperand | badBase | noSpan | nestedSpan | memoryFault | clamped
  | missed | unconfirmed | noReply | rejected | superseded | cancelled | alreadyShown | withdrawFailed
  deriving DecidableEq, Repr

/-- The delivery states the part writes into Q2 (R8, R9). -/
inductive DeliveryState where
  | pending | staged | confirmed | missed | unconfirmed | noReply | rejected | cancelled | alreadyShown
  deriving DecidableEq, Repr

/-- A waiting roster entry's state (R104). An entry that is IN_TURN keeps here the state it left to enter the turn. -/
inductive EntryState where
  | waitingUpdate | heldStaged | waitingProbe | waitingWithdraw
  deriving DecidableEq, Repr

/-- The frames of a turn (R104). -/
inductive TurnFrame where
  | update | probe | withdraw
  deriving DecidableEq, Repr

/-- The results a reply carries (R129). -/
inductive ReplyResult where
  | staged | shown | rejected | withdrawn
  deriving DecidableEq, Repr

/-- The radio states (R127). -/
inductive RadioState where
  | off | active | fault
  deriving DecidableEq, Repr

/-! ## Memory Controller: the shared RAM -/

/-- The 4 MiB RAM. `bytes` lists the bytes that are not 0, by address. `parity` lists the words written since the
power-on, with `true` where the stored parity does not match the word. `generation` numbers the power-ons. -/
structure Ram where
  generation : Nat
  bytes : List Host.Cell
  parity : List (Nat × Bool)
  deriving DecidableEq, Repr

/-! ## Loader: what a load takes from the header and the settings block (R179, R183) -/

/-- The values that a completed load puts in effect. -/
structure Load where
  boardBase : Nat
  directoryBase : Nat
  directorySize : Nat
  settingsBase : Nat
  cellCode : BitVec 16
  channel : Nat
  attemptLimit : Nat
  sweepInterval : Nat
  rushStart : Nat
  rushEnd : Nat
  batteryFloor : BitVec 4
  /-- bit r set: region r is BACK (R2) -/
  policy : BitVec 16
  deriving DecidableEq, Repr

/-! ## Host Link -/

/-- A host access of RAM that the Host Link holds (R163, R167). -/
inductive HostAccess where
  | read (addr : BitVec 24)
  | write (addr : BitVec 24) (data : Word)
  deriving DecidableEq, Repr

/-- The Host Link (R170 to R178). -/
structure HostLink where
  runState : RunState
  /-- the code of the last command taken or refused; 0 is NONE (R173) -/
  lastCommand : BitVec 4
  lastResult : CommandResult
  /-- the command in progress; the in-progress flag is its presence (R173) -/
  active : Option ActiveCommand
  loadFault : LoadFaultCode
  /-- the latched causes (R176), bits 0 to 8 in the order of the register table -/
  attention : BitVec 9
  /-- the enables (R177) -/
  enable : BitVec 9
  /-- accesses held until a fill ends, oldest first (R163) -/
  held : List HostAccess
  /-- the model's own: the word the link answered to the latest host read that was answered -/
  readData : Option Word
  deriving DecidableEq, Repr

/-! ## Timebase -/

/-- The Timebase (R18 to R31). -/
structure Timebase where
  storeTime : Word
  timeSet : Bool
  /-- milliseconds of the second in progress, 0 to 999 -/
  subSecond : Nat
  nextCycle : BitVec 16
  position : SlotPosition
  /-- the slot in progress has had its slot end -/
  periodOver : Bool
  /-- milliseconds of the period in progress -/
  periodMs : Nat
  /-- the live rush state (R27) -/
  liveRush : RushState
  /-- the cycle rush state of the last cycle started (R28, R29) -/
  cycleRush : RushState
  /-- the number carried by the last cycle start (R113) -/
  cycleNumber : BitVec 16
  /-- the store time carried by the last cycle start (R113, R131) -/
  cycleTime : Word
  deriving DecidableEq, Repr

/-! ## Change Chains: cards, links and the walk context -/

/-- A link with its form (R59); form code 3 is none of the three. -/
inductive Link where
  | null
  | short (k : BitVec 16)
  | long (k : BitVec 17)
  | undefinedForm (value : BitVec 17)
  deriving DecidableEq, Repr

/-- A change card as read: its words at offsets 0 to 16. The words at 20 to 28 are unused (10_memory_layouts.md). -/
structure Card where
  w0 : Word
  w4 : Word
  w8 : Word
  w12 : Word
  w16 : Word
  deriving DecidableEq, Repr

/-- The next step of a walk (R61). -/
inductive NextStep where
  | nextCard | repeatCard | nextIteration
  deriving DecidableEq, Repr

/-- The span frame (R61, R77). -/
structure SpanFrame where
  start : Nat
  remaining : Nat
  stride : Nat
  current : Nat
  startDepartment : Option (BitVec 8)
  untilDepartment : Bool
  body : Link
  exit : Option Link
  depth : Nat
  deriving DecidableEq, Repr

/-- An image of a label: three prices (0 absent) and the badges (R6). -/
structure Image where
  primary : Nat
  partner : Nat
  unit : Nat
  badges : BitVec 8
  deriving DecidableEq, Repr

/-- One targeting card being applied to one label (R67). -/
structure Application where
  card : Card
  cardNumber : Nat
  index : Nat
  /-- the opening question's answer: the map holds an entry, and Q2 is the working image -/
  fromEntry : Bool
  deriving DecidableEq, Repr

/-- An accepted change whose Q2 write is under way (R68). -/
structure Staging where
  ident : BitVec 24
  image : Image
  clamped : Bool
  raw : Int
  version : BitVec 16
  deriving DecidableEq, Repr

/-- What the walker is doing between two of its steps. -/
inductive WalkPhase where
  /-- at a card boundary, or before its first card -/
  | ready
  /-- a span iteration waits for the Q0 read of its index (R78) -/
  | iterating (body : Card) (bodyNumber : Nat)
  /-- an application waits for its record read (R67) -/
  | reading (app : Application)
  /-- an application waits for its Q2 write (R68) -/
  | writing (app : Application) (staging : Staging)
  /-- a room stall (R71); `retry` when a removal or class change has been reported -/
  | roomStall (app : Application) (retry : Bool)
  /-- a turn stall (R72); `retry` when the turn's end has been reported -/
  | turnStall (app : Application) (retry : Bool)
  deriving DecidableEq, Repr

/-- The walk context (R61). The chain base, the card limit and the cards-read count are the ticket context's. -/
structure Walk where
  slot : Nat
  link : Link
  next : NextStep
  /-- the include stack, the entry pushed last at the head; its length is the walk's depth -/
  stack : List Link
  span : Option SpanFrame
  parkRequest : Bool
  endRequest : Option TicketOutcome
  /-- no card has been read since the walk started -/
  fresh : Bool
  /-- the card in progress, or the stalled card to be read again, is the span's body as an iteration read it (R58, R78) -/
  body : Bool
  phase : WalkPhase
  deriving DecidableEq, Repr

/-! ## Ticket Unit -/

/-- A held ticket context (R34). -/
structure Ticket where
  state : ContextState
  cls : TicketClass
  sequence : Word
  chainBase : Nat
  firstLink : Link
  cardLimit : Nat
  activation : Word
  deadline : Word
  listAddress : Nat
  listCapacity : Nat
  /-- the seventeen tallies, in the order of `Tally` -/
  tallies : List Word
  entriesWritten : BitVec 16
  overflow : BitVec 16
  progressMark : Word
  outcome : Option TicketOutcome
  reason : Reason
  stopCard : Option Nat
  cancelled : Bool
  expired : Bool
  /-- the last second tick found the deadline reached (R51) -/
  expiryDue : Bool
  /-- the number of the last card read, for the stop card of R83 -/
  lastCard : Option Nat
  deriving DecidableEq, Repr

/-- The Ticket Unit. A slot that `tickets` does not list has its context NOT_HELD (R34). -/
structure TicketUnit where
  tickets : List (Nat × Ticket)
  /-- milliseconds since the sweep timer was restarted; none while it is stopped (R35) -/
  sweepTimer : Option Nat
  sweepActive : Bool
  sweepPending : Bool
  deriving DecidableEq, Repr

/-! ## Delivery Roster -/

/-- How a change closes (R122). -/
inductive Closing where
  | confirmed
  | rejected (shown : BitVec 16)
  | noReply (attempts : Nat)
  | missed
  | unconfirmed (withdrawing : Bool)
  | cancelled
  | alreadyShown
  deriving DecidableEq, Repr

/-- What a turn's result makes of its entry, once the write-back has been made (R121). -/
inductive AfterTurn where
  | stays (state : EntryState)
  | closes (closing : Closing)
  deriving DecidableEq, Repr

/-- A turn's write-back in progress (R121). -/
structure WriteBack where
  /-- Q1 takes the staged image (step 2) -/
  confirm : Bool
  /-- the delivery state to be written (step 3) -/
  delivery : Option DeliveryState
  after : AfterTurn
  deriving DecidableEq, Repr

/-- A turn of an entry: no result yet, or its write-back in progress. -/
inductive EntryTurn where
  | exchanging
  | writingBack (wb : WriteBack)
  deriving DecidableEq, Repr

/-- An accepted enter request on an index that has an entry (R108). -/
structure Decision where
  ticket : Nat
  cls : TicketClass
  activation : Word
  version : BitVec 16
  deriving DecidableEq, Repr

/-- An accepted enter request on an index that has no entry (R108). -/
structure NewEntry where
  index : Nat
  ident : BitVec 24
  slot : Nat
  phase : Nat
  exponent : Nat
  rushing : Bool
  rushDay : Nat
  decision : Decision
  deriving DecidableEq, Repr

/-- A delivery entry (R104). IN_TURN is the presence of `turn`; the turn frame follows from `state`. -/
structure Entry where
  index : Nat
  ident : BitVec 24
  slot : Nat
  phase : Nat
  exponent : Nat
  rushing : Bool
  owner : Nat
  cls : TicketClass
  state : EntryState
  attempts : Nat
  offered : Bool
  version : BitVec 16
  activation : Word
  turn : Option EntryTurn
  /-- a removal outside a turn, in progress (R122) -/
  removing : Option Closing
  /-- CANCEL of the owner is in progress and waits for this removal (R124) -/
  cancelWaits : Bool
  deferCancel : Bool
  deferExpiry : Bool
  decision : Option Decision
  deriving DecidableEq, Repr

/-- The Delivery Roster. The entries stand in join order; each slot list and the index-to-entry map are views of them
(R106, R107). -/
structure Roster where
  entries : List Entry
  newEntry : Option NewEntry
  deriving DecidableEq, Repr

/-! ## Air Link Controller -/

/-- What is known of the content of a turn's frame (R134). -/
inductive TurnContent where
  /-- an UPDATE whose record read has not been answered -/
  | awaited
  /-- the frame can be sent; for an UPDATE the bytes from its content kind on -/
  | ready (content : List Byte)
  /-- dropped from the roll call -/
  | dropped
  deriving DecidableEq, Repr

/-- A turn of the slot in progress (R115, R132). -/
structure AirTurn where
  number : Nat
  frame : TurnFrame
  index : Nat
  ident : BitVec 24
  version : BitVec 16
  activation : Word
  content : TurnContent
  reported : Bool
  deriving DecidableEq, Repr

/-- What the controller does in the period in progress. -/
inductive AirStage where
  | idle
  /-- `busy` senses of the beacon period have found the channel busy (R130) -/
  | beaconSense (busy : Nat)
  /-- `busy` senses of the slot have found the channel busy (R133) -/
  | slotSense (busy : Nat)
  /-- the roll call has been sent; `turn` is the last turn started, 0 before the first, and `window` whether its
  reply window is open (R136) -/
  | serving (turn : Nat) (window : Bool)
  deriving DecidableEq, Repr

/-- The Air Link Controller (R127). -/
structure AirLink where
  radio : RadioState
  restartMark : Bool
  lostSlots : Nat
  turns : List AirTurn
  stage : AirStage
  /-- the bytes of the frame being sent; the transmitter is keyed while there is one -/
  onAir : Option (List Byte)
  /-- the Key Monitor's measure of continuous keying, in milliseconds -/
  keyedMs : Nat
  deriving DecidableEq, Repr

/-! ## Directory Cache -/

/-- A line that is not INVALID, or the record in the push buffer (R148). It is DIRTY when a mark of `dirty` is set. -/
structure Line where
  index : Nat
  /-- the record's sixteen words -/
  words : List Word
  /-- bit q: the dirty mark of quarter q -/
  dirty : BitVec 4
  pushPending : Bool
  deriving DecidableEq, Repr

/-- The part-side requesters of rank 2, 3 and 4 (R149). -/
inductive Requester where
  | airRoster | delivery | walker
  deriving DecidableEq, Repr

/-- What a request does with its record (R149). Words are numbered 0 to 15 within the record. -/
inductive CacheOp where
  /-- a read of the quarters listed -/
  | read (quarters : List Nat)
  /-- a write of whole words -/
  | write (words : List (Nat × Word))
  /-- an update: of each word listed, the bits of the mask take the value given, the others stay -/
  | update (words : List (Nat × Word × Word))
  /-- the update that increases consecutive misses (R12) -/
  | countMiss
  deriving DecidableEq, Repr

/-- What the answer to a request is for. -/
inductive Purpose where
  | updateContent (turn : Nat)
  | replyStatus
  | confirmRead
  | confirmWrite
  | deliveryState
  | spanTest
  | recordRead
  | stageImage
  deriving DecidableEq, Repr

/-- A part-side request of the cache port (R149). -/
structure Request where
  index : Nat
  op : CacheOp
  purpose : Purpose
  deriving DecidableEq, Repr

/-- The fill in progress (R152, R153). -/
structure Fill where
  /-- the way reserved to the fill, as 4 × set + way -/
  key : Nat
  index : Nat
  requester : Requester
  /-- the starting request; none when it has been withdrawn -/
  request : Option Request
  /-- the first quarter read -/
  first : Nat
  /-- the line read buffer: the quarters that have arrived, in the order read, four words each -/
  arrived : List (List Word)
  deriving DecidableEq, Repr

/-- The Directory Cache (R148 to R169). -/
structure Cache where
  /-- the lines that are not INVALID, by 4 × set + way -/
  lines : List (Nat × Line)
  replacement : BitVec 2
  pushBuffer : Option Line
  fill : Option Fill
  /-- requests of the Air Link and Roster requester, oldest first -/
  airRequests : List Request
  /-- requests of the Roster delivery-state requester, oldest first -/
  deliveryRequests : List Request
  walkerRequest : Option Request
  /-- the requesters whose request has been set aside (R150) -/
  airAside : Bool
  deliveryAside : Bool
  walkerAside : Bool
  /-- the PUSH_ALL sweeper's place, as 4 × set + way; none while it has nothing to do (R165) -/
  sweeper : Option Nat
  deriving DecidableEq, Repr

/-! ## The part -/

/-- The state of the part. -/
structure State where
  /-- the commands that wait, first in, first out -/
  pending : List Instr
  host : HostLink
  ram : Ram
  /-- the values of the load in effect; none before the first load completes -/
  load : Option Load
  loader : LoaderPhase
  time : Timebase
  unit : TicketUnit
  walk : Option Walk
  roster : Roster
  air : AirLink
  cache : Cache
  deriving DecidableEq, Repr

/-! ## Power-on values (R184) -/

/-- RAM after power-on number `gen`: nothing written (log 2, log 3). -/
def Ram.powerOn (gen : Nat) : Ram := { generation := gen, bytes := [], parity := [] }

/-- R173, R176, R177. -/
def HostLink.reset : HostLink :=
  { runState := .unloaded, lastCommand := 0, lastResult := .none, active := none, loadFault := .none,
    attention := 0, enable := 0, held := [], readData := none }

/-- R31; the current cycle's number and store time are log 8. -/
def Timebase.reset : Timebase :=
  { storeTime := 0, timeSet := false, subSecond := 0, nextCycle := 0, position := .stopped, periodOver := false,
    periodMs := 0, liveRush := .closed, cycleRush := .closed, cycleNumber := 0, cycleTime := 0 }

/-- R56. -/
def TicketUnit.reset : TicketUnit :=
  { tickets := [], sweepTimer := none, sweepActive := false, sweepPending := false }

/-- R126. -/
def Roster.reset : Roster := { entries := [], newEntry := none }

/-- R127. -/
def AirLink.reset : AirLink :=
  { radio := .off, restartMark := false, lostSlots := 0, turns := [], stage := .idle, onAir := none, keyedMs := 0 }

/-- R168. -/
def Cache.reset : Cache :=
  { lines := [], replacement := 0, pushBuffer := none, fill := none, airRequests := [], deliveryRequests := [],
    walkerRequest := none, airAside := false, deliveryAside := false, walkerAside := false, sweeper := none }

/-- The part right after power-on reset (R184). -/
def State.reset : State :=
  { pending := [], host := HostLink.reset, ram := Ram.powerOn 0, load := none, loader := .idle,
    time := Timebase.reset, unit := TicketUnit.reset, walk := none, roster := Roster.reset,
    air := AirLink.reset, cache := Cache.reset }

end Sys2Proof.Machine
end

