-- ==== Sys2Proof/Machine/Ops.lean ====
section
/-! DEFINITION. The named operations on the RAM, on the lists kept by number, and on the blocks of the state. -/

namespace Sys2Proof.Machine

/-! ## Lists kept by rising number -/

/-- The value listed under a number. -/
def assocFind {α : Type} (k : Nat) : List (Nat × α) → Option α
  | [] => none
  | (j, v) :: rest => if j = k then some v else assocFind k rest

/-- List a value under a number, in place of the one listed there. -/
def assocPut {α : Type} (k : Nat) (v : α) : List (Nat × α) → List (Nat × α)
  | [] => [(k, v)]
  | (j, w) :: rest =>
    if k < j then (k, v) :: (j, w) :: rest
    else if k = j then (k, v) :: rest
    else (j, w) :: assocPut k v rest

/-- Take a number off the list. -/
def assocDrop {α : Type} (k : Nat) : List (Nat × α) → List (Nat × α)
  | [] => []
  | (j, w) :: rest => if j = k then rest else (j, w) :: assocDrop k rest

/-- The numbers of the list rise strictly, each above `low`. -/
def risingAbove {α : Type} (low : Nat) : List (Nat × α) → Bool
  | [] => true
  | (j, _) :: rest => decide (low < j) && risingAbove j rest

/-- The numbers of the list rise strictly. -/
def rising {α : Type} : List (Nat × α) → Bool
  | [] => true
  | (j, _) :: rest => risingAbove j rest

/-! ## The shared RAM -/

/-- The byte at an offset. An offset not listed reads 0 (log 2). -/
def Ram.byte (m : Ram) (a : Nat) : Byte := (assocFind a m.bytes).getD 0#8

/-- Store one byte, keeping the canonical form: a byte of 0 is not listed. -/
def Ram.setByte (m : Ram) (a : Nat) (b : Byte) : Ram :=
  { m with bytes := if b = 0#8 then assocDrop a m.bytes else assocPut a b m.bytes }

/-- The offset of the first byte of the word that holds an offset. -/
def wordBase (a : Nat) : Nat := 4 * (a / 4)

/-- The word that holds an offset, least significant byte first (R186). -/
def Ram.word (m : Ram) (a : Nat) : Word :=
  (m.byte (wordBase a + 3) ++ m.byte (wordBase a + 2) ++ m.byte (wordBase a + 1) ++ m.byte (wordBase a) : BitVec 32)

/-- Whether the word that holds an offset meets a parity fault when it is read. The parity of a word that nothing has
written since power-on is a free value (R17, log 3). -/
def Ram.faulty (m : Ram) (a : Nat) : Bool :=
  (assocFind (a / 4) m.parity).getD (Config.powerOnFault m.generation (a / 4))

/-- Write the whole word that holds an offset, and fresh parity with it (R171, R186). -/
def Ram.setWord (m : Ram) (a : Nat) (w : Word) : Ram :=
  let m4 := (((m.setByte (wordBase a) (w.extractLsb' 0 8)).setByte (wordBase a + 1) (w.extractLsb' 8 8)).setByte
    (wordBase a + 2) (w.extractLsb' 16 8)).setByte (wordBase a + 3) (w.extractLsb' 24 8)
  { m4 with parity := assocPut (a / 4) false m4.parity }

/-- The canonical form of the RAM: offsets strictly rising, no byte of 0 listed, parity marks strictly rising. -/
def Ram.wf (m : Ram) : Bool :=
  rising m.bytes && m.bytes.all (fun c => decide (c.2 ≠ 0#8)) && rising m.parity

/-- The words from an offset on. -/
def Ram.words (m : Ram) (a n : Nat) : List Word := (List.range n).map fun k => m.word (a + 4 * k)

/-- Whether any of the words from an offset on meets a parity fault. -/
def Ram.anyFaulty (m : Ram) (a n : Nat) : Bool := (List.range n).any fun k => m.faulty (a + 4 * k)

/-- Write words from an offset on. -/
def Ram.setWords (m : Ram) (a : Nat) : List Word → Ram
  | [] => m
  | w :: rest => (m.setWord a w).setWords (a + 4) rest

/-! ## The blocks of the state -/

def State.onHost (s : State) (f : HostLink → HostLink) : State := { s with host := f s.host }
def State.onRam (s : State) (f : Ram → Ram) : State := { s with ram := f s.ram }
def State.onTime (s : State) (f : Timebase → Timebase) : State := { s with time := f s.time }
def State.onUnit (s : State) (f : TicketUnit → TicketUnit) : State := { s with unit := f s.unit }
def State.onRoster (s : State) (f : Roster → Roster) : State := { s with roster := f s.roster }
def State.onAir (s : State) (f : AirLink → AirLink) : State := { s with air := f s.air }
def State.onCache (s : State) (f : Cache → Cache) : State := { s with cache := f s.cache }
def State.withWalk (s : State) (w : Option Walk) : State := { s with walk := w }
def State.withLoad (s : State) (l : Option Load) : State := { s with load := l }
def State.withLoader (s : State) (p : LoaderPhase) : State := { s with loader := p }
def State.withPending (s : State) (q : List Instr) : State := { s with pending := q }

/-- Write one RAM word on the part's behalf. -/
def State.putWord (s : State) (a : Nat) (w : Word) : State := s.onRam (·.setWord a w)

/-! ## Values of the load in effect -/

/-- The board base of the load in effect (R32). -/
def State.boardBase (s : State) : Nat := (s.load.map (·.boardBase)).getD 0

/-- The directory base of the load in effect (R1). -/
def State.directoryBase (s : State) : Nat := (s.load.map (·.directoryBase)).getD 0

/-- The directory size N of the load in effect; no record before a load (R1). -/
def State.directorySize (s : State) : Nat := (s.load.map (·.directorySize)).getD 0

/-- The attempt limit of the load in effect (R120). -/
def State.attemptLimit (s : State) : Nat := (s.load.map (·.attemptLimit)).getD 0

/-- The cell code of the load in effect (R127). -/
def State.cellCode (s : State) : BitVec 16 := (s.load.map (·.cellCode)).getD 0

/-- The battery floor of the load in effect (R131). -/
def State.batteryFloor (s : State) : BitVec 4 := (s.load.map (·.batteryFloor)).getD 0

/-- The RAM offset of a field of the ticket in a board slot (R32). -/
def State.ticketOffset (s : State) (slot off : Nat) : Nat := s.boardBase + 128 * slot + off

/-- The RAM offset of a word of a directory record (R1). -/
def State.recordOffset (s : State) (index word : Nat) : Nat := s.directoryBase + 64 * index + 4 * word

/-- Two byte areas, each from its base up to but not including base plus length, share a byte (R179). -/
def areasMeet (a la b lb : Nat) : Bool := decide (a < b + lb) && decide (b < a + la)

/-- An area meets one of the fixed areas of a load (R179): header, board, directory, settings block. -/
def Load.meetsFixed (l : Load) (a la : Nat) : Bool :=
  areasMeet a la 0 64 || areasMeet a la l.boardBase 4096 || areasMeet a la l.directoryBase (64 * l.directorySize)
    || areasMeet a la l.settingsBase 64

/-- An area meets a fixed area of the load in effect. -/
def State.meetsFixed (s : State) (a la : Nat) : Bool := (s.load.map (·.meetsFixed a la)).getD false

end Sys2Proof.Machine
end

