-- ==== Sys2Proof/Machine/Flags.lean ====
section
/-! DEFINITION. Attention causes, the words that CONTROL and the other registers read, rush states and label versions. -/

namespace Sys2Proof.Machine

/-! ## Attention (R176, R177) -/

/-- The nine causes, in the order of their bits (10_memory_layouts.md, "Registers"). -/
inductive Cause where
  | loaded | loadFault | settled | boardClash | memoryFault | hostParity | radioFault | channelBusy | commandLost
  deriving DecidableEq, Repr

/-- The latch of a cause, as its bit of ATTENTION. -/
def Cause.mask : Cause → BitVec 9
  | .loaded => 0x001#9
  | .loadFault => 0x002#9
  | .settled => 0x004#9
  | .boardClash => 0x008#9
  | .memoryFault => 0x010#9
  | .hostParity => 0x020#9
  | .radioFault => 0x040#9
  | .channelBusy => 0x080#9
  | .commandLost => 0x100#9

/-- Latch a cause; one already latched stays latched (R176). -/
def State.latch (s : State) (c : Cause) : State := s.onHost fun h => { h with attention := h.attention ||| c.mask }

/-- Latch a cause when a condition holds. -/
def State.latchIf (s : State) (b : Bool) (c : Cause) : State := if b then s.latch c else s

/-- A cause reads latched. -/
def State.latched (s : State) (c : Cause) : Bool := s.host.attention &&& c.mask != 0#9

/-- The attention output is asserted while a cause is both latched and enabled; it has no latch of its own (R177). -/
def State.attentionOutput (s : State) : Bool := s.host.attention &&& s.host.enable != 0#9

/-! ## Register words (10_memory_layouts.md, "Registers") -/

def RunState.code : RunState → BitVec 3
  | .unloaded => 0 | .loading => 1 | .halted => 2 | .running => 3 | .loadFault => 4

def CommandResult.code : CommandResult → BitVec 3
  | .none => 0 | .done => 1 | .wrongState => 2 | .noTime => 3 | .notHeld => 4 | .badArgument => 5

def LoadFaultCode.code : LoadFaultCode → BitVec 4
  | .none => 0 | .badSignature => 1 | .badLayout => 2 | .badRange => 3 | .overlap => 4 | .badChannel => 5 | .memory => 6

/-- The word CONTROL reads (R173). -/
def HostLink.controlWord (h : HostLink) : Word :=
  (0#16 ++ h.loadFault.code ++ 0#1 ++ h.lastResult.code ++ h.lastCommand ++ (BitVec.ofBool h.active.isSome)
    ++ h.runState.code : BitVec 32)

/-- The word that register k reads (R172); NUDGE reads 0, STORE_TIME reads 0 while unset. -/
def State.registerWord (s : State) (k : Nat) : Word :=
  match k with
  | 0 => Config.identWord
  | 1 => s.host.controlWord
  | 3 => s.host.attention.zeroExtend 32
  | 4 => s.host.enable.zeroExtend 32
  | 5 => if s.time.timeSet then s.time.storeTime else 0#32
  | _ => 0#32

/-! ## Rush states (R27 to R29) -/

/-- Time of day of a store time (R21). -/
def timeOfDay (t : Word) : Nat := t.toNat % Config.secondsPerDay

/-- Day number of a store time (R21). -/
def dayNumber (t : Word) : Nat := t.toNat / Config.secondsPerDay

/-- A rush window is valid when start and end are below 86,400 and differ (R27). -/
def windowValid (first last : Nat) : Bool :=
  decide (first < Config.secondsPerDay) && decide (last < Config.secondsPerDay) && first != last

/-- The rush state of a window at a store time, by the table of R27. -/
def rushAt (first last : Nat) (t : Word) : RushState :=
  let u := timeOfDay t
  let d := dayNumber t
  if !windowValid first last then .closed
  else if first < last then (if first ≤ u ∧ u < last then .openDay d else .closed)
  else if first ≤ u then .openDay d
  else if u < last ∧ 1 ≤ d then .openDay (d - 1)
  else .closed

/-- The live rush state that the settings in effect give at the current store time (R27). -/
def State.evaluateRush (s : State) : RushState :=
  match s.load with
  | none => .closed
  | some l => if s.time.timeSet then rushAt l.rushStart l.rushEnd s.time.storeTime else .closed

/-- Evaluate the live rush state afresh. -/
def State.refreshRush (s : State) : State := s.onTime fun t => { t with liveRush := s.evaluateRush }

def RushState.isOpen : RushState → Bool
  | .closed => false
  | .openDay _ => true

/-- The window day of an open rush state. -/
def RushState.day : RushState → Nat
  | .closed => 0
  | .openDay d => d

/-- A cycle start carries rush renewal when its rush state is CLOSED, or OPEN with another window day than the previous
one's (R29). -/
def rushRenewal (previous now : RushState) : Bool :=
  match now with
  | .closed => true
  | .openDay d => previous != .openDay d

/-! ## Versions and the wake schedule (R14 to R16) -/

/-- Version v is newer than version d (R14). -/
def newerVersion (v d : BitVec 16) : Bool :=
  decide (1 ≤ (v - d).toNat) && decide ((v - d).toNat ≤ 32767)

/-- Add one to a version; an increment that would give 0 gives 1 (R14). -/
def nextVersion (v : BitVec 16) : BitVec 16 := if v + 1#16 = 0#16 then 1#16 else v + 1#16

/-- The k-bit bit-reversal (00_scope.md, "Bit reversal"). -/
def bitReverse : Nat → Nat → Nat
  | 0, _ => 0
  | k + 1, x => (x % 2) * 2 ^ k + bitReverse k (x / 2)

/-- The wake slot of a directory index (R15). -/
def wakeSlot (index : Nat) : Nat := bitReverse 6 (index % 64)

/-- The phase of a directory index for a listen exponent (R16). -/
def wakePhase (index exponent : Nat) : Nat := bitReverse exponent (index / 64 % 2 ^ exponent)

end Sys2Proof.Machine
end

