-- ==== Sys2Proof/Machine/Operands.lean ====
section
/-! DEFINITION. The encodings of 10_memory_layouts.md: links, cards, directory records, ticket fields, the resume area,
exception entries, and the codes of the enumerations. -/

namespace Sys2Proof.Machine

/-- Bits `lo` to `lo + len − 1` of a word, as a number. -/
def bitsOf (w : Word) (lo len : Nat) : Nat := (w.extractLsb' lo len).toNat

/-- One bit of a word. -/
def bitAt (w : Word) (k : Nat) : Bool := w.getLsbD k

/-! ## Links (R59, R60) -/

/-- The link in bits 0 to 18 of a word: form in bits 17–18, NULL 0, SHORT 1, LONG 2, and 3 none of the three. -/
def linkOfBits (b : BitVec 19) : Link :=
  match (b.extractLsb' 17 2).toNat with
  | 0 => .null
  | 1 => .short (b.extractLsb' 0 16)
  | 2 => .long (b.extractLsb' 0 17)
  | _ => .undefinedForm (b.extractLsb' 0 17)

/-- The link in a link word; bits 19–31 are not read. -/
def linkOfWord (w : Word) : Link := linkOfBits (w.extractLsb' 0 19)

/-- Bits 0 to 18 of a link word; value bits a form does not use are 0 (R186). A link of form code 3, which has no defined
value bits, is written with bits 0 to 16 as it was read (log 24). -/
def Link.toBits : Link → BitVec 19
  | .null => 0#19
  | .short k => (1#2 ++ 0#1 ++ k : BitVec 19)
  | .long k => (2#2 ++ k : BitVec 19)
  | .undefinedForm v => (3#2 ++ v : BitVec 19)

/-- What following a link comes to (R59, R60). -/
inductive LinkTarget where
  | null
  | bad
  | card (number : Nat)
  deriving DecidableEq, Repr

/-- The card a card number names, bad when the 32 bytes lie beyond the RAM or meet a fixed area of the load (R60). -/
def State.cardTarget (s : State) (number : Nat) : LinkTarget :=
  if Config.ramCards ≤ number then .bad
  else if s.meetsFixed (32 * number) 32 then .bad
  else .card number

/-- Resolve a link against a chain base (R59, R60). -/
def State.resolveLink (s : State) (chainBase : Nat) (l : Link) : LinkTarget :=
  match l with
  | .null => .null
  | .short k => s.cardTarget (chainBase / 32 + k.toNat)
  | .long k => s.cardTarget k.toNat
  | .undefinedForm _ => .bad

/-! ## Change cards (R57, R65) -/

/-- The eight kinds. -/
inductive CardKind where
  | price | adjustPercent | adjustAmount | badge | span | include | mark | chainEnd
  deriving DecidableEq, Repr

/-- The guards. -/
inductive Guard where
  | always | ifDown | ifUp
  deriving DecidableEq, Repr

def Card.kindCode (c : Card) : Nat := bitsOf c.w0 0 8

/-- The kind, absent for a code that is none of the eight. -/
def Card.kind (c : Card) : Option CardKind :=
  match c.kindCode with
  | 1 => some .price
  | 2 => some .adjustPercent
  | 3 => some .adjustAmount
  | 4 => some .badge
  | 5 => some .span
  | 6 => some .include
  | 7 => some .mark
  | 8 => some .chainEnd
  | _ => none

def Card.modeCode (c : Card) : Nat := bitsOf c.w0 8 2
def Card.guardCode (c : Card) : Nat := bitsOf c.w0 10 2
def Card.twin (c : Card) : Bool := bitAt c.w0 12
def Card.untilDepartment (c : Card) : Bool := bitAt c.w0 13
def Card.targetIndex (c : Card) : Nat := bitsOf c.w0 16 14
def Card.nextLink (c : Card) : Link := linkOfWord c.w4

/-- The target link of an INCLUDE. -/
def Card.targetLink (c : Card) : Link := linkOfWord c.w8

/-- Target mode SPAN. -/
def Card.spanMode (c : Card) : Bool := c.modeCode == 1

/-- The guard, by its code. -/
def Card.guard (c : Card) : Guard :=
  match c.guardCode with
  | 1 => .ifDown
  | 2 => .ifUp
  | _ => .always

/-- The targeting kinds (R57). -/
def CardKind.targeting : CardKind → Bool
  | .price | .adjustPercent | .adjustAmount | .badge => true
  | .span | .include | .mark | .chainEnd => false

def between (lo hi x : Int) : Bool := decide (lo ≤ x) && decide (x ≤ hi)

/-- The keep code of a PRICE partner, and NONE of an ending. -/
def allOnes : Word := 0xFFFFFFFF#32

/-- The ranges of R65, over the whole word of each operand. -/
def Card.operandsInRange (c : Card) (k : CardKind) : Bool :=
  let modeOk := decide (c.modeCode ≤ 1)
  let guardOk := decide (c.guardCode ≤ 2)
  let endingOk := c.w12 == allOnes || decide (c.w12.toNat ≤ 99)
  let floorOk := decide (c.w16.toNat ≤ Config.maxPrice)
  match k with
  | .price =>
    modeOk && guardOk && between 1 9999999 c.w8.toNat
      && (!c.twin || c.w12 == allOnes || decide (c.w12.toNat ≤ Config.maxPrice))
  | .adjustPercent => modeOk && guardOk && between (-10000) 10000 c.w8.toInt && endingOk && floorOk
  | .adjustAmount => modeOk && guardOk && between (-9999999) 9999999 c.w8.toInt && endingOk && floorOk
  | .badge => modeOk
  | .span => between 1 4096 c.w12.toNat && between 1 64 c.w16.toNat
  | .include | .mark | .chainEnd => true

/-- Read a card whole (R57). -/
def State.readCard (s : State) (number : Nat) : Card :=
  { w0 := s.ram.word (32 * number), w4 := s.ram.word (32 * number + 4), w8 := s.ram.word (32 * number + 8),
    w12 := s.ram.word (32 * number + 12), w16 := s.ram.word (32 * number + 16) }

/-! ## Directory records (R3 to R13, R85) -/

/-- The unit bases. -/
inductive UnitBasis where
  | none | per100g | perKg | per100ml | perL | perPiece
  deriving DecidableEq, Repr

/-- An undefined code reads as NONE (R3). -/
def UnitBasis.ofCode : Nat → UnitBasis
  | 1 => .per100g
  | 2 => .perKg
  | 3 => .per100ml
  | 4 => .perL
  | 5 => .perPiece
  | _ => .none

def UnitBasis.code : UnitBasis → Nat
  | .none => 0 | .per100g => 1 | .perKg => 2 | .per100ml => 3 | .perL => 4 | .perPiece => 5

/-- The reference quantity of a basis (R3); NONE has none. -/
def UnitBasis.reference : UnitBasis → Nat
  | .none => 0 | .per100g => 100 | .perKg => 1000 | .per100ml => 100 | .perL => 1000 | .perPiece => 1

/-- Word k of a record. -/
def recordWord (ws : List Word) (k : Nat) : Word := ws.getD k 0#32

def recordIdent (ws : List Word) : BitVec 24 := (recordWord ws 0).extractLsb' 0 24

/-- Any kind code but that of PANEL reads as DIGIT (R3). -/
def recordIsPanel (ws : List Word) : Bool := bitsOf (recordWord ws 0) 24 8 == 1

/-- Listen exponents 6 and 7 read as 5 (R3). -/
def recordExponent (ws : List Word) : Nat := min 5 (bitsOf (recordWord ws 1) 0 3)

def recordDepartment (ws : List Word) : BitVec 8 := (recordWord ws 1).extractLsb' 8 8

def recordBasis (ws : List Word) : UnitBasis := UnitBasis.ofCode (bitsOf (recordWord ws 1) 16 8)

/-- A net quantity above 999,999 reads as 999,999 (R3). -/
def recordNet (ws : List Word) : Nat := min 999999 (bitsOf (recordWord ws 2) 0 24)

/-- A stored price above 9,999,999 reads as 9,999,999 (R6, R85). -/
def priceRead (stored : Nat) : Nat := min Config.maxPrice stored

/-- The image in the four words from word `base` (4 for Q1, 8 for Q2), under the reading rules of R85. -/
def imageRead (ws : List Word) (base : Nat) (panel : Bool) : Image :=
  { primary := priceRead (bitsOf (recordWord ws base) 0 24)
    partner := if panel then priceRead (bitsOf (recordWord ws (base + 1)) 0 24) else 0
    unit := priceRead (bitsOf (recordWord ws (base + 2)) 0 24)
    badges := (recordWord ws base).extractLsb' 24 8 }

/-- The displayed version of Q1. -/
def recordDisplayed (ws : List Word) : BitVec 16 := (recordWord ws 7).extractLsb' 0 16

/-- The rushing flag of Q3. -/
def recordRushing (ws : List Word) : Bool := bitAt (recordWord ws 12) 4

/-- The rush-window day of Q3. -/
def recordRushDay (ws : List Word) : Nat := bitsOf (recordWord ws 13) 16 16

def DeliveryState.code : DeliveryState → BitVec 4
  | .pending => 1 | .staged => 2 | .confirmed => 3 | .missed => 4 | .unconfirmed => 5 | .noReply => 6
  | .rejected => 7 | .cancelled => 8 | .alreadyShown => 9

def price24 (p : Nat) : BitVec 24 := BitVec.ofNat 24 p

/-- The four words of Q1 for a confirmed image (R7). -/
def confirmedWords (im : Image) (version : BitVec 16) : List (Nat × Word) :=
  [(4, (im.badges ++ price24 im.primary : BitVec 32)), (5, (0#8 ++ price24 im.partner : BitVec 32)),
   (6, (0#8 ++ price24 im.unit : BitVec 32)), (7, (0#16 ++ version : BitVec 32))]

/-- The activation remainder: the activation time mod 8,388,608 (R188). -/
def activationRemainder (t : Word) : BitVec 23 := t.extractLsb' 0 23

/-- The four words of Q2 for a staged image (R8, R188). -/
def stagedWords (im : Image) (version : BitVec 16) (activation : Word) (owner : BitVec 5) : List (Nat × Word) :=
  let r := activationRemainder activation
  [(8, (im.badges ++ price24 im.primary : BitVec 32)),
   (9, (r.extractLsb' 16 3 ++ owner ++ price24 im.partner : BitVec 32)),
   (10, (r.extractLsb' 19 4 ++ DeliveryState.pending.code ++ price24 im.unit : BitVec 32)),
   (11, (r.extractLsb' 0 16 ++ version : BitVec 32))]

/-- The delivery state in the word at record offset 40, with the mask of its four bits (R188). -/
def deliveryUpdate (d : DeliveryState) : List (Nat × Word × Word) :=
  [(10, 0x0F000000#32, (0#4 ++ d.code ++ 0#24 : BitVec 32))]

/-- The first word of Q3 after a valid reply: misses 0 (R11). -/
def statusWord (battery : BitVec 4) (rushing : Bool) (quality : BitVec 8) : Word :=
  (0#8 ++ 0#8 ++ quality ++ 0#3 ++ BitVec.ofBool rushing ++ battery : BitVec 32)

/-- The word at record offset 48 with its consecutive misses increased, stopping at 255; its unused bits are 0
(R12, R186). -/
def missWord (w : Word) : Word :=
  let misses := w.extractLsb' 16 8
  let more := if misses = 255#8 then 255#8 else misses + 1#8
  (0#8 ++ more ++ w.extractLsb' 8 8 ++ 0#3 ++ w.extractLsb' 0 5 : BitVec 32)

/-! ## Tickets (R32) -/

def Tally.all : List Tally :=
  [.cardsRead, .applied, .unchanged, .guarded, .refused, .vacant, .faulted, .entered, .confirmed, .unconfirmed,
   .missed, .noReply, .rejected, .superseded, .cancelled, .alreadyShown, .interrupted]

/-- The place of a tally among the seventeen. -/
def Tally.place : Tally → Nat
  | .cardsRead => 0 | .applied => 1 | .unchanged => 2 | .guarded => 3 | .refused => 4 | .vacant => 5 | .faulted => 6
  | .entered => 7 | .confirmed => 8 | .unconfirmed => 9 | .missed => 10 | .noReply => 11 | .rejected => 12
  | .superseded => 13 | .cancelled => 14 | .alreadyShown => 15 | .interrupted => 16

/-- The offset of a tally in the ticket record: seventeen words from 24. -/
def Tally.offset (t : Tally) : Nat := 24 + 4 * t.place

def ContextState.handoff : ContextState → Word
  | .queued => 1 | .walking => 2 | .parked => 3 | .delivering => 4

def handoffFree : Word := 0#32
def handoffPosted : Word := 1#32
def handoffSettled : Word := 5#32

/-- WALKING, PARKED and DELIVERING: the states in which the part owns the record (R33). -/
def partOwned (w : Word) : Bool := w == 2#32 || w == 3#32 || w == 4#32

def TicketOutcome.code : TicketOutcome → BitVec 8
  | .complete => 1 | .abridged => 2 | .cancelled => 3 | .expired => 4 | .interrupted => 5 | .malformed => 6

def Reason.code : Reason → BitVec 8
  | .none => 0 | .runaway => 1 | .badLink => 2 | .memory => 3 | .depth => 4 | .badClass => 5 | .badChain => 6
  | .badLimit => 7 | .badList => 8 | .badTimes => 9

/-- The outcome word at offset 12. -/
def outcomeWord (o : TicketOutcome) (r : Reason) : Word := (0#16 ++ r.code ++ o.code : BitVec 32)

/-- The stored form of a card number or its absence (R186). -/
def cardWord : Option Nat → Word
  | none => Config.absentWord
  | some n => BitVec.ofNat 32 n

/-! ## Exception entries (R48) -/

def ExceptionKind.code : ExceptionKind → BitVec 8
  | .badKind => 1 | .badTarget => 2 | .badOperand => 3 | .badBase => 4 | .noSpan => 5 | .nestedSpan => 6
  | .memoryFault => 7 | .clamped => 8 | .missed => 9 | .unconfirmed => 10 | .noReply => 11 | .rejected => 12
  | .superseded => 13 | .cancelled => 14 | .alreadyShown => 15 | .withdrawFailed => 16

/-- A report's exception entry (R48). -/
structure ExceptionEntry where
  index : Nat
  ident : BitVec 24
  kind : ExceptionKind
  card : Option Nat
  detail : Word
  deriving DecidableEq, Repr

/-- The four words of an exception entry. -/
def ExceptionEntry.words (e : ExceptionEntry) : List Word :=
  [(0#8 ++ e.kind.code ++ BitVec.ofNat 16 e.index : BitVec 32), (0#8 ++ e.ident : BitVec 32), cardWord e.card, e.detail]

/-! ## The resume area (R187) -/

def NextStep.code : NextStep → BitVec 2
  | .nextCard => 0 | .repeatCard => 1 | .nextIteration => 2

/-- The include stack entry at a place of the push order, as link bits; 0 beyond the depth. -/
def stackBits (stack : List Link) (k : Nat) : BitVec 19 := ((stack.reverse[k]?).map Link.toBits).getD 0#19

/-- The eight words of the resume area (R187). With a span present, the bits of word 6 for an exit link or a start
department that is absent are written as 0, the model's choice: R187 gives their presence marks alone (log 24). So is the
cut of a current index past 32,767, which only a rewritten area can lead to, to its 15 bits (log 53). -/
def Walk.resumeWords (w : Walk) : List Word :=
  let depth := BitVec.ofNat 3 w.stack.length
  let st := stackBits w.stack
  match w.span with
  | none =>
    [(0#8 ++ depth ++ w.next.code ++ w.link.toBits : BitVec 32), (0#13 ++ st 0 : BitVec 32), (0#13 ++ st 1 : BitVec 32),
     (0#13 ++ st 2 : BitVec 32), (0#13 ++ st 3 : BitVec 32), 0#32, 0#32, 0#32]
  | some f =>
    [(0#1 ++ BitVec.ofBool f.exit.isSome ++ BitVec.ofBool f.startDepartment.isSome ++ BitVec.ofBool f.untilDepartment
        ++ BitVec.ofNat 3 f.depth ++ 1#1 ++ depth ++ w.next.code ++ w.link.toBits : BitVec 32),
     (BitVec.ofNat 13 f.remaining ++ st 0 : BitVec 32), (0#13 ++ st 1 : BitVec 32), (0#13 ++ st 2 : BitVec 32),
     (0#13 ++ st 3 : BitVec 32), (0#6 ++ BitVec.ofNat 7 f.stride ++ f.body.toBits : BitVec 32),
     (0#5 ++ f.startDepartment.getD 0#8 ++ (f.exit.map Link.toBits).getD 0#19 : BitVec 32),
     (0#3 ++ BitVec.ofNat 15 f.current ++ BitVec.ofNat 14 f.start : BitVec 32)]

/-- The span frame of a resume area. -/
def spanOfResume (a : List Word) : Option SpanFrame :=
  let w0 := recordWord a 0
  if bitAt w0 24 then
    some
      { start := bitsOf (recordWord a 7) 0 14
        remaining := bitsOf (recordWord a 1) 19 13
        stride := bitsOf (recordWord a 5) 19 7
        current := bitsOf (recordWord a 7) 14 15
        startDepartment := if bitAt w0 29 then some ((recordWord a 6).extractLsb' 19 8) else none
        untilDepartment := bitAt w0 28
        body := linkOfWord (recordWord a 5)
        exit := if bitAt w0 30 then some (linkOfWord (recordWord a 6)) else none
        depth := bitsOf w0 25 3 }
  else none

/-- The walk that a resume area holds for the ticket in a slot, as it stands (R187). A depth above 4 is read as 4 (log
16); a next step that cannot be taken is a free choice of the other two (log 6); a card to be repeated is the span's body
when it stands at the body link and at the span's depth (log 39). -/
def walkOfResume (slot : Nat) (a : List Word) : Walk :=
  let w0 := recordWord a 0
  let span := spanOfResume a
  let depth := min 4 (bitsOf w0 21 3)
  let other := if Config.resumeStepRepeats w0 then NextStep.repeatCard else NextStep.nextCard
  { slot := slot
    link := linkOfWord w0
    next :=
      match bitsOf w0 19 2 with
      | 0 => .nextCard
      | 1 => .repeatCard
      | 2 => if span.isSome then .nextIteration else other
      | _ => other
    stack := (((List.range depth).map fun k => linkOfWord (recordWord a (k + 1))).reverse)
    span := span
    parkRequest := false
    endRequest := none
    fresh := false
    body := bitsOf w0 19 2 == 1 && span.any fun f => depth == f.depth && linkOfWord w0 == f.body
    phase := .ready }

end Sys2Proof.Machine
end

