-- ==== Sys2Proof/Machine/PriceEngine.lean ====
section
/-! DEFINITION. The Price Engine (R84 to R103): one evaluation of a card against a working image, and the digit strings
of a DIGIT label. An evaluation begins and ends within one step, so none stands between two steps of the part. -/

namespace Sys2Proof.Machine

/-- The inputs of an evaluation (R84), as read under R85. -/
structure EngineInput where
  kind : CardKind
  card : Card
  panel : Bool
  basis : UnitBasis
  net : Nat
  working : Image
  deriving DecidableEq, Repr

/-- The tentative new image with the raw primary result and the condition indicators (R84, R99). -/
structure Tentative where
  image : Image
  raw : Int
  down : Bool
  up : Bool
  clamped : Bool
  deriving DecidableEq, Repr

/-- The engine's answer (R100). -/
inductive EngineAnswer where
  | badBase
  | notApplied
  | same
  | newImage (image : Image) (clamped : Bool) (raw : Int)
  deriving DecidableEq, Repr

/-- The raw result of ADJUST_PERCENT: half up (R89). -/
def rawPercent (price : Nat) (bp : Int) : Int := ((price : Int) * (10000 + bp) + 5000) / 10000

/-- The raw result of ADJUST_AMOUNT (R90). -/
def rawAmount (price : Nat) (amount : Int) : Int := (price : Int) + amount

/-- The ceiling stage: the value carried on, and whether it clamped (R91). -/
def ceilingStage (raw : Int) : Int × Bool :=
  if (Config.maxPrice : Int) < raw then ((Config.maxPrice : Int), true) else (raw, false)

/-- The ending stage: the candidate, if there is one (R92). -/
def endingStage (ending : Word) (v : Int) : Option Int :=
  if ending = allOnes then some v
  else if (ending.toNat : Int) ≤ v then some (v - (v - (ending.toNat : Int)) % 100)
  else none

/-- The floor stage: the new price, and whether it clamped (R93). A floor of 0 is read as 1. -/
def floorStage (floor : Nat) (raw : Int) (candidate : Option Int) : Nat × Bool :=
  let f := max 1 floor
  match candidate with
  | none => (f, true)
  | some c => if c < (f : Int) ∨ raw < (f : Int) then (f, true) else (c.toNat, false)

/-- The four stages of R89 to R93, from a raw result. -/
def adjustedPrice (card : Card) (raw : Int) : Nat × Bool :=
  let (carried, high) := ceilingStage raw
  let (price, low) := floorStage card.w16.toNat raw (endingStage card.w12 carried)
  (price, high || low)

/-- The raw result of an adjustment card on a price. -/
def rawAdjust (kind : CardKind) (card : Card) (price : Nat) : Int :=
  if kind = .adjustPercent then rawPercent price card.w8.toInt else rawAmount price card.w8.toInt

/-- The unit price of a primary (0 is absent), and whether it was held at the ceiling (R95, R96). -/
def unitPrice (basis : UnitBasis) (net primary : Nat) : Nat × Bool :=
  if basis = .none ∨ net = 0 then (0, false)
  else
    let u := (primary * basis.reference + net / 2) / net
    if Config.maxPrice < u then (Config.maxPrice, true)
    else if u = 0 then (1, false)
    else (u, false)

/-- The partner of a PRICE card (R88). -/
def pricePartner (i : EngineInput) : Nat :=
  if !i.panel then 0
  else if !i.card.twin then i.working.partner
  else if i.card.w12 = allOnes then i.working.partner
  else i.card.w12.toNat

/-- The partner of an adjustment, and whether it clamped: the twin rule (R94). -/
def adjustPartner (i : EngineInput) : Nat × Bool :=
  if !i.panel then (0, false)
  else if !i.card.twin then (i.working.partner, false)
  else if i.working.partner = 0 then (0, false)
  else adjustedPrice i.card (rawAdjust i.kind i.card i.working.partner)

/-- The badges of a BADGE card: set, then clear, then toggle (R97). -/
def badgesAfter (card : Card) (b : BitVec 8) : BitVec 8 :=
  ((b ||| card.w8.extractLsb' 0 8) &&& ~~~ card.w8.extractLsb' 8 8) ^^^ card.w8.extractLsb' 16 8

/-- The badge test (R97). -/
def badgeTestMatches (card : Card) (b : BitVec 8) : Bool :=
  b &&& card.w8.extractLsb' 24 8 == card.w12.extractLsb' 0 8

/-- DOWN and UP on a primary (R99). -/
def Tentative.of (working : Image) (image : Image) (raw : Int) (clamped : Bool) : Tentative :=
  { image := image, raw := raw, down := decide (image.primary < working.primary),
    up := decide (working.primary < image.primary), clamped := clamped }

/-- Steps 3 to 6 of R86, with the indicators of step 7. -/
def tentative (i : EngineInput) : Tentative :=
  match i.kind with
  | .price =>
    let p := i.card.w8.toNat
    let (u, held) := unitPrice i.basis i.net p
    Tentative.of i.working { primary := p, partner := pricePartner i, unit := u, badges := i.working.badges } p held
  | .adjustPercent | .adjustAmount =>
    let raw := rawAdjust i.kind i.card i.working.primary
    let (p, c1) := adjustedPrice i.card raw
    let (q, c2) := adjustPartner i
    let (u, c3) := unitPrice i.basis i.net p
    Tentative.of i.working { primary := p, partner := q, unit := u, badges := i.working.badges } raw (c1 || c2 || c3)
  | .badge | .span | .include | .mark | .chainEnd =>
    { image := { i.working with badges := badgesAfter i.card i.working.badges }, raw := i.working.primary, down := false,
      up := false, clamped := false }

/-- The guard of a card (R98); a BADGE card has none. -/
def guardPasses (i : EngineInput) (t : Tentative) : Bool :=
  if i.kind = .badge then true
  else
    match i.card.guard with
    | .always => true
    | .ifDown => t.down
    | .ifUp => t.up

/-- The working image as a DIGIT label has it: no partner (R85). -/
def EngineInput.reading (i : EngineInput) : EngineInput :=
  { i with working :=
      { primary := priceRead i.working.primary
        partner := if i.panel then priceRead i.working.partner else 0
        unit := priceRead i.working.unit
        badges := i.working.badges } }

/-- One evaluation, by the steps of R86. -/
def evaluate (input : EngineInput) : EngineAnswer :=
  let i := input.reading
  if i.working.primary = 0 ∧ (i.kind = .adjustPercent ∨ i.kind = .adjustAmount) then .badBase
  else if i.kind = .badge ∧ (i.working.primary = 0 ∨ badgeTestMatches i.card i.working.badges = false) then .notApplied
  else
    let t := tentative i
    if !guardPasses i t then .notApplied
    else if t.image = i.working then .same
    else .newImage t.image t.clamped t.raw

/-! ## Digit strings (R102, R103) -/

/-- The seven decimal digits of a price, position 1 first. -/
def sevenDigits (m : Nat) : List Nat :=
  [m / 1000000, m / 100000 % 10, m / 10000 % 10, m / 1000 % 10, m / 100 % 10, m / 10 % 10, m % 10]

/-- BLANK, code 15, for each leading zero of positions 1 to 4. -/
def blankLeading : Nat → List Nat → List Nat
  | 0, ds => ds
  | _ + 1, [] => []
  | n + 1, d :: rest => if d = 0 then 15 :: blankLeading n rest else d :: rest

/-- The digit string of a price (R102). -/
def digitString (m : Nat) : List Nat := blankLeading 4 (sevenDigits m)

/-- The digit string of a unit price, which may be absent. -/
def unitDigitString (u : Nat) : List Nat := if u = 0 then List.replicate 7 15 else digitString u

/-- A digit string in four bytes: position 1 in the low four bits of the first byte, the high four bits of the fourth
byte unused (10_memory_layouts.md, "Frames on the Air"). -/
def packDigits (ds : List Nat) : List Byte :=
  let d := fun k => BitVec.ofNat 4 (ds.getD k 0)
  [(d 1 ++ d 0 : BitVec 8), (d 3 ++ d 2 : BitVec 8), (d 5 ++ d 4 : BitVec 8), (0#4 ++ d 6 : BitVec 8)]

end Sys2Proof.Machine
end

