-- ==== Sys2Proof/Machine/Tickets.lean ====
section
/-! DEFINITION. The ticket table and what the Ticket Unit writes to the board: tallies, exception entries, settlement
(R34, R46 to R50). -/

namespace Sys2Proof.Machine

/-! ## The ticket table (R34) -/

/-- The held context of a board slot. -/
def State.ticket (s : State) (n : Nat) : Option Ticket := assocFind n s.unit.tickets

def State.setTicket (s : State) (n : Nat) (t : Ticket) : State :=
  s.onUnit fun u => { u with tickets := assocPut n t u.tickets }

/-- Return a context to NOT_HELD. -/
def State.dropTicket (s : State) (n : Nat) : State :=
  s.onUnit fun u => { u with tickets := assocDrop n u.tickets }

/-- Change a held context; a slot not held stays as it is. -/
def State.changeTicket (s : State) (n : Nat) (f : Ticket → Ticket) : State :=
  match s.ticket n with
  | none => s
  | some t => s.setTicket n (f t)

/-- Write one word of the ticket record in a board slot. -/
def State.putTicketWord (s : State) (n off : Nat) (w : Word) : State := s.putWord (s.ticketOffset n off) w

/-! ## Tallies (R46, R47) -/

def Ticket.tally (t : Ticket) (k : Tally) : Word := t.tallies.getD k.place 0#32

def Ticket.bump (t : Ticket) (k : Tally) : Ticket := { t with tallies := t.tallies.set k.place (t.tally k + 1#32) }

/-- The live entry count: entered less the sum of the other nine delivery tallies (R47). -/
def Ticket.liveCount (t : Ticket) : Word :=
  t.tally .entered - (t.tally .confirmed + t.tally .unconfirmed + t.tally .missed + t.tally .noReply
    + t.tally .rejected + t.tally .superseded + t.tally .cancelled + t.tally .alreadyShown + t.tally .interrupted)

/-- Count one in a tally of a held ticket, and write the tally to its field (R46). -/
def State.countTally (s : State) (n : Nat) (k : Tally) : State :=
  match s.ticket n with
  | none => s
  | some t => (s.setTicket n (t.bump k)).putTicketWord n k.offset ((t.bump k).tally k)

/-- The word at offset 8: entries written and overflow count. -/
def Ticket.countsWord (t : Ticket) : Word := (t.overflow ++ t.entriesWritten : BitVec 32)

/-- Write every tally of a ticket to its field. -/
def State.putTallies (s : State) (n : Nat) (t : Ticket) : State :=
  Tally.all.foldl (fun s k => s.putTicketWord n k.offset (t.tally k)) s

/-- Write 0 into every tally, the counts and the progress mark (R38, R39, R53). -/
def State.zeroTallies (s : State) (n : Nat) : State :=
  ((Tally.all.foldl (fun s k => s.putTicketWord n k.offset 0#32) s).putTicketWord n 8 0#32).putTicketWord n 16 0#32

/-! ## Exception entries (R48, R49) -/

/-- Write an exception entry at the next position of a held ticket's list, or count it in the overflow count. -/
def State.writeException (s : State) (n : Nat) (e : ExceptionEntry) : State :=
  match s.ticket n with
  | none => s
  | some t =>
    if t.entriesWritten.toNat < t.listCapacity then
      let t' := { t with entriesWritten := t.entriesWritten + 1#16 }
      ((s.onRam (·.setWords (t.listAddress + 16 * t.entriesWritten.toNat) e.words)).setTicket n t').putTicketWord n 8
        t'.countsWord
    else
      let t' := { t with overflow := if t.overflow = 65535#16 then 65535#16 else t.overflow + 1#16 }
      (s.setTicket n t').putTicketWord n 8 t'.countsWord

/-! ## Settlement (R50) -/

/-- Write the outcome, the stop card and the handoff word SETTLED, and latch SETTLED (R50). -/
def State.putSettlement (s : State) (n : Nat) (o : TicketOutcome) (r : Reason) (stop : Option Nat) : State :=
  (((s.putTicketWord n 12 (outcomeWord o r)).putTicketWord n 20 (cardWord stop)).putTicketWord n 0 handoffSettled).latch
    .settled

/-- Settle a ticket that is not held: every tally and count 0, the outcome, SETTLED (R38, R39, R53). -/
def State.settleUnheld (s : State) (n : Nat) (o : TicketOutcome) (r : Reason) : State :=
  (s.zeroTallies n).putSettlement n o r none

/-- Settle a held ticket (R50). The stop card is written for ABRIDGED alone. -/
def State.settle (s : State) (n : Nat) : State :=
  match s.ticket n with
  | none => s
  | some t =>
    let o := t.outcome.getD .complete
    let stop := if o = .abridged then t.stopCard else none
    (((s.putTallies n t).putTicketWord n 8 t.countsWord).putSettlement n o t.reason stop).dropTicket n

/-- Settle a ticket whose walk has ended and whose live count is 0 (R50). -/
def State.settleIfDone (s : State) (n : Nat) : State :=
  match s.ticket n with
  | none => s
  | some t => if t.state = .delivering ∧ t.liveCount = 0#32 then s.settle n else s

/-! ## Reports (R46) -/

/-- Write the exception entry of a report, if it gives one. -/
def State.writeExceptionOf (s : State) (n : Nat) : Option ExceptionEntry → State
  | none => s
  | some e => s.writeException n e

/-- A Roster report that counts a delivery tally: exception entry, tally, then settlement (R46, R47, R50). -/
def State.reportDelivery (s : State) (n : Nat) (k : Tally) (e : Option ExceptionEntry) : State :=
  ((s.writeExceptionOf n e).countTally n k).settleIfDone n

/-- A walker report: exception entry, then the tally (R46). -/
def State.reportWork (s : State) (n : Nat) (k : Tally) (e : Option ExceptionEntry) : State :=
  (s.writeExceptionOf n e).countTally n k

/-! ## Commands in progress (R173) -/

/-- Give the result of the command in progress: result written and flag cleared together. -/
def State.finishCommand (s : State) (r : CommandResult) : State :=
  s.onHost fun h => { h with active := none, lastResult := r }

end Sys2Proof.Machine
end

