-- ==== Sys2Proof/Machine/Roster.lean ====
section
/-! DEFINITION. The Delivery Roster (R104 to R126): entries, slot lists, enter requests, turn selection, turn results,
write-back, removals, expiry and cancellation. -/

namespace Sys2Proof.Machine

/-! ## Entries, map and slot lists (R104 to R107) -/

/-- The index-to-entry map (R107). -/
def State.entry (s : State) (index : Nat) : Option Entry := s.roster.entries.find? fun e => e.index == index

/-- Change the entry of an index. -/
def State.changeEntry (s : State) (index : Nat) (f : Entry → Entry) : State :=
  s.onRoster fun r => { r with entries := r.entries.map fun e => if e.index = index then f e else e }

/-- Take the entry of an index off the roster. -/
def State.removeEntry (s : State) (index : Nat) : State :=
  s.onRoster fun r => { r with entries := r.entries.filter fun e => e.index != index }

/-- A new entry joins behind every entry. -/
def State.joinEntry (s : State) (e : Entry) : State := s.onRoster fun r => { r with entries := r.entries ++ [e] }

/-- Move an entry to the tail of the join order (R106). -/
def State.rejoinEntry (s : State) (index : Nat) : State :=
  match s.entry index with
  | none => s
  | some e => (s.removeEntry index).joinEntry e

/-- The list of a wake slot: URGENT entries first, each class in join order (R106). -/
def Roster.slotList (r : Roster) (slot : Nat) : List Entry :=
  let here := r.entries.filter fun e => e.slot == slot
  (here.filter fun e => e.cls == .urgent) ++ here.filter fun e => e.cls == .overnight

/-- The indexes of a ticket's entries, slot 0 to slot 63 and each list from its head (R123). -/
def Roster.indexesOf (r : Roster) (owner : Nat) : List Nat :=
  (List.range 64).flatMap fun slot => ((r.slotList slot).filter fun e => e.owner == owner).map (·.index)

/-- The entry cannot be acted on or taken for a turn now: IN_TURN, in removal, or with an open decision (R107). -/
def Entry.busy (e : Entry) : Bool := e.turn.isSome || e.removing.isSome || e.decision.isSome

/-- The number of OVERNIGHT entries (R105). -/
def Roster.overnightCount (r : Roster) : Nat := r.entries.countP fun e => e.cls == .overnight

/-- No room for a new entry of a class (R105). -/
def Roster.fullFor (r : Roster) (c : TicketClass) : Bool :=
  decide (Config.rosterPlaces ≤ r.entries.length)
    || (c == .overnight && decide (Config.overnightPlaces ≤ r.overnightCount))

/-! ## Reports to the walker (R105, R107) -/

/-- Change the walk, if there is one. -/
def State.changeWalk (s : State) (f : Walk → Walk) : State := s.withWalk (s.walk.map f)

/-- A completed removal or a change of class: a walker in a room stall may make its application over (R71, R105). -/
def State.reportRoom (s : State) : State :=
  s.changeWalk fun w =>
    match w.phase with
    | .roomStall app _ => { w with phase := .roomStall app true }
    | _ => w

/-- A turn end of an index: a walker in a turn stall on it asks again (R72, R107). -/
def State.reportTurnEnd (s : State) (index : Nat) : State :=
  s.changeWalk fun w =>
    match w.phase with
    | .turnStall app _ => if app.index = index then { w with phase := .turnStall app true } else w
    | _ => w

/-! ## Requests of the cache port (R149) -/

def State.askAir (s : State) (r : Request) : State :=
  s.onCache fun c => { c with airRequests := c.airRequests ++ [r] }

def State.askDelivery (s : State) (index : Nat) (d : DeliveryState) : State :=
  s.onCache fun c =>
    { c with deliveryRequests :=
        c.deliveryRequests ++ [{ index := index, op := .update (deliveryUpdate d), purpose := .deliveryState }] }

/-! ## Removals (R122) -/

def Closing.delivery : Closing → DeliveryState
  | .confirmed => .confirmed
  | .rejected _ => .rejected
  | .noReply _ => .noReply
  | .missed => .missed
  | .unconfirmed _ => .unconfirmed
  | .cancelled => .cancelled
  | .alreadyShown => .alreadyShown

def Closing.tally : Closing → Tally
  | .confirmed => .confirmed
  | .rejected _ => .rejected
  | .noReply _ => .noReply
  | .missed => .missed
  | .unconfirmed _ => .unconfirmed
  | .cancelled => .cancelled
  | .alreadyShown => .alreadyShown

/-- The exception kind and detail of a removal (R48, R122); a confirmed change gives none. -/
def Closing.exception (c : Closing) (version : BitVec 16) : Option (ExceptionKind × Word) :=
  let v : Word := version.zeroExtend 32
  match c with
  | .confirmed => none
  | .rejected shown => some (.rejected, shown.zeroExtend 32)
  | .noReply attempts => some (.noReply, BitVec.ofNat 32 attempts)
  | .missed => some (.missed, v)
  | .unconfirmed false => some (.unconfirmed, v)
  | .unconfirmed true => some (.withdrawFailed, v)
  | .cancelled => some (.cancelled, v)
  | .alreadyShown => some (.alreadyShown, v)

/-- An exception entry about a roster entry: no card number (R48). -/
def Entry.exceptionEntry (e : Entry) (kind : ExceptionKind) (detail : Word) : ExceptionEntry :=
  { index := e.index, ident := e.ident, kind := kind, card := none, detail := detail }

/-- CANCEL n gives DONE once the walk of n has ended and every entry that was to be removed when the Roster took the
cancellation has been removed; a removal begun later is not waited for (R52, R124). -/
def State.finishCancel (s : State) : State :=
  match s.host.active with
  | some (.cancel n) =>
    if (s.walk.any fun w => w.slot == n) || s.roster.entries.any (fun e => e.owner == n && e.cancelWaits) then s
    else s.finishCommand .done
  | _ => s

/-- A removal completes: report to the owning ticket, then the entry leaves the map and its list, and the removal is
reported to the walker (R122). -/
def State.closeEntry (s : State) (e : Entry) (c : Closing) : State :=
  let exc := (c.exception e.version).map fun p => e.exceptionEntry p.1 p.2
  (((((s.reportDelivery e.owner c.tally exc).removeEntry e.index).reportRoom).reportTurnEnd e.index).finishCancel)

/-- A removal outside a turn starts with the delivery-state write (R122). -/
def State.beginRemoval (s : State) (index : Nat) (c : Closing) : State :=
  (s.changeEntry index fun e => { e with removing := some c }).askDelivery index c.delivery

/-! ## Expiry and cancellation (R123 to R125) -/

/-- A ticket's expiry reaches an entry (R123). -/
def State.expireEntry (s : State) (index : Nat) : State :=
  match s.entry index with
  | none => s
  | some e =>
    if e.removing.isSome then s
    else if e.turn.isSome || e.decision.isSome then s.changeEntry index fun e => { e with deferExpiry := true }
    else
      match e.state with
      | .waitingUpdate => s.beginRemoval index .missed
      | .heldStaged => s.beginRemoval index (.unconfirmed false)
      | .waitingProbe => s.beginRemoval index (.unconfirmed false)
      | .waitingWithdraw => s.beginRemoval index (.unconfirmed true)

/-- The activation time has passed, as of the current cycle's store time (R117, R124). -/
def State.activationPassed (s : State) (activation : Word) : Bool :=
  activation == 0#32 || decide (activation.toNat ≤ s.time.cycleTime.toNat)

/-- A ticket's cancellation reaches an entry (R124). -/
def State.cancelEntry (s : State) (index : Nat) : State :=
  match s.entry index with
  | none => s
  | some e =>
    if e.removing.isSome then s
    else if e.turn.isSome || e.decision.isSome then s.changeEntry index fun e => { e with deferCancel := true }
    else
      match e.state with
      | .waitingUpdate => s.beginRemoval index .cancelled
      | .heldStaged => s.changeEntry index fun e => { e with state := .waitingWithdraw, attempts := 0 }
      | .waitingProbe =>
        if s.activationPassed e.activation then s.beginRemoval index .alreadyShown
        else s.changeEntry index fun e => { e with state := .waitingWithdraw, attempts := 0 }
      | .waitingWithdraw => s

/-- The Roster takes a ticket's expiry (R123). -/
def State.expireEntries (s : State) (n : Nat) : State :=
  (s.roster.indexesOf n).foldl State.expireEntry s

/-- CANCEL waits for the entry when it belongs to the ticket cancelled and is in removal (R124). -/
def Entry.awaited (n : Nat) (e : Entry) : Entry :=
  if e.owner = n ∧ e.removing.isSome then { e with cancelWaits := true } else e

/-- CANCEL waits for the removals that the ticket's entries are in now (R124). -/
def State.awaitRemovals (s : State) (n : Nat) : State :=
  s.onRoster fun r => { r with entries := r.entries.map (Entry.awaited n) }

/-- The Roster takes a ticket's cancellation (R124). -/
def State.cancelEntries (s : State) (n : Nat) : State :=
  ((s.roster.indexesOf n).foldl State.cancelEntry s).awaitRemovals n

/-- An entry acts on its deferred actions: the cancellation first, the expiry after it (R112, R125). -/
def State.deferredActions (s : State) (index : Nat) : State :=
  match s.entry index with
  | none => s
  | some e =>
    let s := s.changeEntry index fun e => { e with deferCancel := false, deferExpiry := false }
    let s := if e.deferCancel then s.cancelEntry index else s
    if e.deferExpiry then s.expireEntry index else s

/-! ## Entering a change (R108 to R112) -/

/-- The Roster's answer to the opening question of an application (R107). -/
inductive MapAnswer where
  | noEntry | inTurn | present
  deriving DecidableEq, Repr

def State.askMap (s : State) (index : Nat) : MapAnswer :=
  match s.entry index with
  | none => .noEntry
  | some e => if e.busy then .inTurn else .present

/-- The Roster's answer to an enter request (R108). -/
inductive EnterAnswer where
  | inTurn | changed | noRoom
  | accepted (version : BitVec 16)
  deriving DecidableEq, Repr

/-- The staged version of an accepted change to an entry (R14, R108). -/
def Entry.acceptedVersion (e : Entry) : BitVec 16 :=
  if e.state = .waitingUpdate ∧ e.offered = false then e.version else nextVersion e.version

/-- The answer to an enter request, in the order of R108. -/
def State.enterAnswer (s : State) (index : Nat) (fromEntry : Bool) (cls : TicketClass) (displayed : BitVec 16) :
    EnterAnswer :=
  match s.entry index with
  | some e =>
    if e.busy then .inTurn
    else if !fromEntry then .changed
    else if e.cls = .urgent ∧ cls = .overnight ∧ Config.overnightPlaces ≤ s.roster.overnightCount then .noRoom
    else .accepted e.acceptedVersion
  | none =>
    if fromEntry then .changed
    else if s.roster.fullFor cls then .noRoom
    else .accepted (nextVersion displayed)

/-- Hold an accepted change to an entry as its open decision (R108). -/
def State.openDecision (s : State) (index : Nat) (d : Decision) : State :=
  s.changeEntry index fun e => { e with decision := some d }

/-- Hold an accepted new entry apart from the map (R108). -/
def State.openNewEntry (s : State) (n : NewEntry) : State := s.onRoster fun r => { r with newEntry := some n }

/-- A new entry is rushing when the window is open and the label's Q3 holds a rushing reply of its day (R13, R109). -/
def NewEntry.startsRushing (n : NewEntry) (live : RushState) : Bool :=
  live.isOpen && n.rushing && n.rushDay == live.day

/-- The entry that a decision makes (R109). -/
def NewEntry.toEntry (n : NewEntry) (live : RushState) : Entry :=
  { index := n.index, ident := n.ident, slot := n.slot, phase := n.phase, exponent := n.exponent,
    rushing := n.startsRushing live, owner := n.decision.ticket, cls := n.decision.cls, state := .waitingUpdate,
    attempts := 0, offered := false, version := n.decision.version, activation := n.decision.activation, turn := none,
    removing := none, cancelWaits := false, deferCancel := false, deferExpiry := false, decision := none }

/-- The entry after a merge (R110): version and, from a state past WAITING_UPDATE, state and attempts. -/
def Entry.merged (e : Entry) (d : Decision) : Entry :=
  { e with
    version := d.version
    offered := if d.version = e.version then e.offered else false
    attempts := if e.state = .waitingUpdate then e.attempts else 0
    state := .waitingUpdate
    decision := none }

/-- The entry after a supersede (R111, R112). -/
def Entry.superseded (e : Entry) (d : Decision) : Entry :=
  { e.merged d with
    owner := d.ticket, cls := d.cls, activation := d.activation, deferCancel := false, deferExpiry := false }

/-- The walker reports that the Q2 write of a new entry completed (R109). -/
def State.completeNew (s : State) (n : NewEntry) : State :=
  ((s.onRoster fun r => { r with newEntry := none }).joinEntry (n.toEntry s.time.liveRush)).reportDelivery
    n.decision.ticket .entered none

/-- The walker reports that the Q2 write of a merge completed (R110, R112). -/
def State.completeMerge (s : State) (e : Entry) (d : Decision) : State :=
  ((s.changeEntry e.index fun e => e.merged d).reportTurnEnd e.index).deferredActions e.index

/-- The walker reports that the Q2 write of a supersede completed (R111). -/
def State.completeSupersede (s : State) (e : Entry) (d : Decision) : State :=
  let s := s.changeEntry e.index fun e => e.superseded d
  let s := if e.cls = d.cls then s else (s.rejoinEntry e.index).reportRoom
  let s := s.reportDelivery e.owner .superseded
    (some (e.exceptionEntry .superseded (BitVec.ofNat 32 d.ticket)))
  (s.reportDelivery d.ticket .entered none).reportTurnEnd e.index

/-- The Roster carries out the decision held for an index (R109 to R111). -/
def State.completeDecision (s : State) (index : Nat) : State :=
  match s.roster.newEntry with
  | some n => s.completeNew n
  | none =>
    match s.entry index with
    | none => s
    | some e =>
      match e.decision with
      | none => s
      | some d => if d.ticket = e.owner then s.completeMerge e d else s.completeSupersede e d

/-- The Roster drops the decision held for an index (R112). -/
def State.dropDecision (s : State) (index : Nat) : State :=
  match s.roster.newEntry with
  | some _ => s.onRoster fun r => { r with newEntry := none }
  | none =>
    ((s.changeEntry index fun e => { e with decision := none }).reportTurnEnd index).deferredActions index

/-! ## Cycle starts and turn selection (R113 to R115) -/

/-- What a cycle start does to an entry (R113). -/
def Entry.atCycleStart (renewal : Bool) (now : Word) (e : Entry) : Entry :=
  { e with
    rushing := if renewal then false else e.rushing
    state := if e.state = .heldStaged ∧ e.activation.toNat ≤ now.toNat then .waitingProbe else e.state }

/-- The label is counted as listening in a cycle (R26). -/
def Entry.listensIn (e : Entry) (cycle : BitVec 16) : Bool :=
  e.rushing || cycle.toNat % 2 ^ e.exponent == e.phase

/-- The entry is eligible at the start of its wake slot (R114). One turned to WAITING_WITHDRAW earlier in the same cycle is
eligible too (log 44). -/
def Entry.eligible (e : Entry) (cycle : BitVec 16) : Bool :=
  e.listensIn cycle && e.state != .heldStaged && !e.busy

/-- The frame that an entry's state calls for (R104). -/
def Entry.frame (e : Entry) : TurnFrame :=
  match e.state with
  | .waitingUpdate | .heldStaged => .update
  | .waitingProbe => .probe
  | .waitingWithdraw => .withdraw

/-- The entries taken for the turns of a slot: the first six eligible, in list order (R115). -/
def Roster.selected (r : Roster) (slot : Nat) (cycle : BitVec 16) : List Entry :=
  ((r.slotList slot).filter fun e => e.eligible cycle).take Config.turnsPerSlot

/-- The turn list of the entries taken, numbered from `k` (R115). -/
def turnsFrom (k : Nat) : List Entry → List AirTurn
  | [] => []
  | e :: rest =>
    { number := k, frame := e.frame, index := e.index, ident := e.ident, version := e.version,
      activation := e.activation, content := if e.frame = .update then .awaited else .ready [], reported := false }
      :: turnsFrom (k + 1) rest

/-- Make the entries of some indexes IN_TURN. -/
def State.enterTurns (s : State) (indexes : List Nat) : State :=
  s.onRoster fun r =>
    { r with entries := r.entries.map fun e => if indexes.contains e.index then { e with turn := some .exchanging } else e }

/-- A turn without a result: the entry returns to the state it left and acts on its deferred actions (R116). -/
def State.returnEntry (s : State) (index : Nat) : State :=
  match s.entry index with
  | none => s
  | some e =>
    if e.turn = some .exchanging then
      ((s.changeEntry index fun e => { e with turn := none }).reportTurnEnd index).deferredActions index
    else s

/-- Every entry of a slot that is IN_TURN without a result returns (R116). They act on their deferred actions one after
another in the order of the slot list, which is the model's choice: R116 and R125 give none (log 52). -/
def State.returnEntries (s : State) (slot : Nat) : State :=
  ((s.roster.slotList slot).map (·.index)).foldl State.returnEntry s

/-! ## Turn results (R117 to R120) -/

/-- The content of a valid reply (R129). -/
structure Reply where
  result : ReplyResult
  displayed : BitVec 16
  staged : Option (BitVec 16)
  battery : BitVec 4
  rushing : Bool
  quality : BitVec 8
  deriving DecidableEq, Repr

/-- What a turn result makes of an entry: its attempts at once, the rest by the write-back. -/
structure Verdict where
  attempts : Nat
  wb : WriteBack
  deriving DecidableEq, Repr

/-- The result closes the change. -/
def Entry.closes (e : Entry) (c : Closing) (confirm : Bool) : Verdict :=
  { attempts := e.attempts, wb := { confirm := confirm, delivery := some c.delivery, after := .closes c } }

/-- The result moves the entry, without an attempt. -/
def Verdict.moves (attempts : Nat) (st : EntryState) (d : Option DeliveryState) : Verdict :=
  { attempts := attempts, wb := { confirm := false, delivery := d, after := .stays st } }

/-- The result counts one attempt; at the attempt limit the entry is removed as no_reply (R120). -/
def Entry.countsAttempt (e : Entry) (limit : Nat) (st : EntryState) (d : Option DeliveryState) : Verdict :=
  let a := e.attempts + 1
  if a = limit then
    { attempts := a, wb := { confirm := false, delivery := some .noReply, after := .closes (.noReply a) } }
  else { attempts := a, wb := { confirm := false, delivery := d, after := .stays st } }

/-- R117: a reply to an UPDATE frame. -/
def Entry.judgeUpdate (e : Entry) (r : Reply) (limit : Nat) (passed : Bool) : Verdict :=
  match r.result with
  | .staged =>
    if r.staged = some e.version then
      Verdict.moves 0 (if passed then .waitingProbe else .heldStaged) (some .staged)
    else e.countsAttempt limit .waitingUpdate none
  | .shown => if r.displayed = e.version then e.closes .confirmed true else e.countsAttempt limit .waitingUpdate none
  | .rejected => e.closes (.rejected r.displayed) false
  | .withdrawn => e.countsAttempt limit .waitingUpdate none

/-- R118: a reply to a PROBE frame; the first row that holds. -/
def Entry.judgeProbe (e : Entry) (r : Reply) (limit : Nat) : Verdict :=
  match r.result with
  | .shown => if r.displayed = e.version then e.closes .confirmed true else e.countsAttempt limit .waitingProbe none
  | .rejected => e.closes (.rejected r.displayed) false
  | .staged =>
    if r.displayed = e.version then e.countsAttempt limit .waitingProbe none
    else if r.staged = some e.version then Verdict.moves e.attempts .waitingProbe none
    else e.countsAttempt limit .waitingUpdate (some .pending)
  | .withdrawn => e.countsAttempt limit .waitingProbe none

/-- R119: a reply to a WITHDRAW frame. -/
def Entry.judgeWithdraw (e : Entry) (r : Reply) (limit : Nat) : Verdict :=
  match r.result with
  | .withdrawn => e.closes .cancelled false
  | .shown =>
    if r.displayed = e.version then e.closes .alreadyShown true else e.countsAttempt limit .waitingWithdraw none
  | .rejected => e.closes (.rejected r.displayed) false
  | .staged => e.countsAttempt limit .waitingWithdraw none

/-- The verdict on a valid reply, by the frame the turn carried. -/
def Entry.judge (e : Entry) (r : Reply) (limit : Nat) (passed : Bool) : Verdict :=
  match e.frame with
  | .update => e.judgeUpdate r limit passed
  | .probe => e.judgeProbe r limit
  | .withdraw => e.judgeWithdraw r limit

/-- The verdict on a turn with no valid reply (R120). -/
def Entry.judgeSilence (e : Entry) (limit : Nat) : Verdict := e.countsAttempt limit e.state none

/-- The Q3 request of a valid reply: a write while the rush window is open, an update that keeps the rush-window day
while it is closed (R11, R157). -/
def statusRequest (index : Nat) (r : Reply) (live : RushState) (cycle : BitVec 16) (now : Word) : Request :=
  { index := index
    purpose := .replyStatus
    op :=
      match live with
      | .openDay day =>
        .write [(12, statusWord r.battery r.rushing r.quality), (13, (BitVec.ofNat 16 day ++ cycle : BitVec 32)), (14, now)]
      | .closed =>
        .update [(12, allOnes, statusWord r.battery false r.quality),
          (13, 0x0000FFFF#32, (0#16 ++ cycle : BitVec 32)), (14, allOnes, now)] }

/-- A valid reply is reported for the turn of an index: attempts and rushing flag change at once, and the write-back
starts with Q3 (R121). -/
def State.reportReply (s : State) (index : Nat) (r : Reply) : State :=
  match s.entry index with
  | none => s
  | some e =>
    if e.turn = some .exchanging then
      let v := e.judge r s.attemptLimit (s.activationPassed e.activation)
      (s.changeEntry index fun e =>
        { e with
          attempts := v.attempts
          rushing := r.rushing && s.time.liveRush.isOpen
          turn := some (.writingBack v.wb) }).askAir
        (statusRequest index r s.time.liveRush s.time.cycleNumber s.time.storeTime)
    else s

/-- No valid reply is reported for the turn of an index (R120). -/
def State.reportSilence (s : State) (index : Nat) : State :=
  match s.entry index with
  | none => s
  | some e =>
    if e.turn = some .exchanging then
      let v := e.judgeSilence s.attemptLimit
      (s.changeEntry index fun e => { e with attempts := v.attempts, turn := some (.writingBack v.wb) }).askAir
        { index := index, op := .countMiss, purpose := .replyStatus }
    else s

/-! ## Write-back (R121, R122) -/

/-- The write-back in progress for an index. -/
def State.writeBackOf (s : State) (index : Nat) : Option (Entry × WriteBack) :=
  match s.entry index with
  | none => none
  | some e =>
    match e.turn with
    | some (.writingBack wb) => some (e, wb)
    | _ => none

/-- Step 4: the report to the owning ticket when the entry is removed; the turn ends (R121). -/
def State.endTurn (s : State) (index : Nat) : State :=
  match s.writeBackOf index with
  | none => s
  | some (e, wb) =>
    match wb.after with
    | .closes c => s.closeEntry e c
    | .stays st =>
      ((s.changeEntry index fun e => { e with turn := none, state := st }).reportTurnEnd index).deferredActions index

/-- Step 3: the delivery-state write, when the result changes it. -/
def State.writeBackDelivery (s : State) (index : Nat) : State :=
  match s.writeBackOf index with
  | none => s
  | some (_, wb) =>
    match wb.delivery with
    | some d => s.askDelivery index d
    | none => s.endTurn index

/-- Step 1 has been made: step 2 reads Q2, when Q1 is to take the staged image. -/
def State.statusWritten (s : State) (index : Nat) : State :=
  match s.writeBackOf index with
  | none => s
  | some (_, wb) =>
    if wb.confirm then s.askAir { index := index, op := .read [2], purpose := .confirmRead }
    else s.writeBackDelivery index

/-- The staged image of a Q2 read, under the price reading rules; without Q0 the kind is a free value (R122, log 5). -/
def confirmImage (index : Nat) (ws : List Word) (kindKnown : Bool) : Image :=
  let stored := imageRead ws 8 true
  let panel :=
    if kindKnown then recordIsPanel ws else !Config.unreadKindIsDigit index stored.partner
  { stored with partner := if panel then stored.partner else 0 }

/-- Q2 has been read: step 2 writes Q1, unless the primary read is 0 (R122). -/
def State.confirmRead (s : State) (index : Nat) (ws : List Word) (kindKnown : Bool) : State :=
  match s.writeBackOf index with
  | none => s
  | some (e, _) =>
    let im := confirmImage index ws kindKnown
    if im.primary = 0 then s.endTurn index
    else s.askAir { index := index, op := .write (confirmedWords im e.version), purpose := .confirmWrite }

/-- A delivery-state write has been served or has faulted: step 4 of a turn's write-back, or the end of a removal. -/
def State.deliveryWritten (s : State) (index : Nat) : State :=
  match s.entry index with
  | none => s
  | some e =>
    match e.turn with
    | some (.writingBack _) => s.endTurn index
    | _ =>
      match e.removing with
      | some c => s.closeEntry e c
      | none => s

end Sys2Proof.Machine
end

