-- ==== Sys2Proof/Machine/Walker.lean ====
section
/-! DEFINITION. The Chain Walker (R57 to R83) and the Ticket Unit's arbiter, parking and walk ends (R40 to R45), which
the walker's card boundaries run into. -/

namespace Sys2Proof.Machine

/-! ## The walker's freedom to step -/

/-- HALT has been taken and has not yet completed (R81). -/
def State.halting (s : State) : Bool := s.host.active == some .halt

/-- The walker takes its next step while the part is RUNNING and has not taken HALT (R63, R81). -/
def State.walkerRuns (s : State) : Bool := s.host.runState == .running && !s.halting

/-! ## The end of a ticket's walk (R45, R51, R52) -/

/-- The walk of a ticket has ended: provisional outcome, tallies, then DELIVERING or settlement. A cancellation and an
expiry that waited for the walk's end then pass to the Roster, in that order (R45, R51, R52). -/
def State.endTicketWalk (s : State) (n : Nat) (o : TicketOutcome) (r : Reason) (stop : Option Nat) : State :=
  match s.ticket n with
  | none => s
  | some t =>
    let t' := { t with state := .delivering, outcome := some o, reason := r, stopCard := stop }
    let s := (s.setTicket n t').putTallies n t'
    if t'.liveCount = 0#32 then (s.settle n).finishCancel
    else
      let s := s.putTicketWord n 0 ContextState.delivering.handoff
      let s := if t.cancelled then s.cancelEntries n else s
      (if t.expired then s.expireEntries n else s).finishCancel

/-! ## Choosing the next walk (R40, R41, R44) -/

/-- The candidate of the lowest sequence; the lower slot first among equals. -/
def lowestSequence : List (Nat × Ticket) → Option (Nat × Ticket)
  | [] => none
  | p :: rest =>
    match lowestSequence rest with
    | none => some p
    | some q => if q.2.sequence.toNat < p.2.sequence.toNat then some q else some p

/-- A candidate of the first group: URGENT and QUEUED (R40). -/
def Ticket.urgentCandidate (t : Ticket) : Bool := t.cls == .urgent && t.state == .queued

/-- A candidate of the second group: OVERNIGHT, QUEUED or PARKED (R40). -/
def Ticket.overnightCandidate (t : Ticket) : Bool :=
  t.cls == .overnight && (t.state == .queued || t.state == .parked)

/-- The ticket the arbiter chooses (R40). -/
def State.chooseTicket (s : State) : Option (Nat × Ticket) :=
  match lowestSequence (s.unit.tickets.filter fun p => p.2.urgentCandidate) with
  | some p => some p
  | none => lowestSequence (s.unit.tickets.filter fun p => p.2.overnightCandidate)

/-- The context of a walk that starts (R41, R61). -/
def Walk.start (n : Nat) (first : Link) : Walk :=
  { slot := n, link := first, next := .nextCard, stack := [], span := none, parkRequest := false, endRequest := none,
    fresh := true, body := false, phase := .ready }

/-- The ticket becomes WALKING with a walk context. -/
def State.takeWalk (s : State) (n : Nat) (w : Walk) : State :=
  ((s.changeTicket n fun t => { t with state := .walking }).putTicketWord n 0 ContextState.walking.handoff).withWalk
    (some w)

/-- The walk of a QUEUED ticket starts; a NULL first link ends it at once (R41). -/
def State.startWalk (s : State) (n : Nat) (t : Ticket) : State :=
  let s := s.takeWalk n (Walk.start n t.firstLink)
  if t.firstLink = .null then (s.withWalk none).endTicketWalk n .complete .none none else s

/-- The walk of a PARKED ticket resumes, or ends ABRIDGED MEMORY on a parity fault in its resume area (R44). -/
def State.resumeWalk (s : State) (n : Nat) : State :=
  let a := s.ticketOffset n 96
  if s.ram.anyFaulty a 8 then (s.latch .memoryFault).endTicketWalk n .abridged .memory none
  else s.takeWalk n (walkOfResume n (s.ram.words a 8))

/-- The arbiter's choices, one after another while each chosen walk ends at once. -/
def State.arbitrateUpTo : Nat → State → State
  | 0, s => s
  | k + 1, s =>
    if s.walk.isSome || !s.walkerRuns then s
    else
      match s.chooseTicket with
      | none => s
      | some (n, t) =>
        State.arbitrateUpTo k (if t.state = .parked then s.resumeWalk n else s.startWalk n t)

/-- The arbiter chooses while the walker is free, the part is RUNNING and HALT has not been taken, so that the walker holds
no context through a halt that parked its walk (R40, R81, log 21). Each choice takes one of at most 32 candidates, so 33
rounds reach a walk or no candidate. -/
def State.arbitrate (s : State) : State := s.arbitrateUpTo 33

/-- The walk in progress ends (R45, R83), and the arbiter chooses. -/
def State.endWalk (s : State) (o : TicketOutcome) (r : Reason) (stop : Option Nat) : State :=
  match s.walk with
  | none => s
  | some w => ((s.withWalk none).endTicketWalk w.slot o r stop).arbitrate

/-- The walk ends by itself at a card; an end request that is held decides the outcome (R63, R82). -/
def State.endWalkAtCard (s : State) (o : TicketOutcome) (r : Reason) (stop : Option Nat) : State :=
  match s.walk with
  | none => s
  | some w =>
    match w.endRequest with
    | some e => s.endWalk e .none none
    | none => s.endWalk o r stop

/-! ## Parking and card boundaries (R42, R43, R63) -/

/-- A QUEUED URGENT ticket exists (R42). -/
def State.urgentQueued (s : State) : Bool := s.unit.tickets.any fun p => p.2.urgentCandidate

/-- The walk is parked: resume area, tallies, PARKED (R43). -/
def State.park (s : State) : State :=
  match s.walk with
  | none => s
  | some w =>
    match s.ticket w.slot with
    | none => s
    | some t =>
      let s := (s.onRam (·.setWords (s.ticketOffset w.slot 96) w.resumeWords)).putTallies w.slot t
      let s := s.putTicketWord w.slot 0 ContextState.parked.handoff
      ((s.setTicket w.slot { t with state := .parked }).withWalk none).arbitrate

/-- A card boundary at which the walk has not ended by itself: end request, then parking request (R63). Under HALT the
walk stops here, since no step is taken until RUN. -/
def State.cardBoundary (s : State) : State :=
  match s.walk with
  | none => s
  | some w =>
    match w.endRequest with
    | some o => s.endWalk o .none none
    | none =>
      if w.parkRequest then
        if s.urgentQueued then s.park else s.changeWalk fun w => { w with parkRequest := false }
      else s

/-! ## Where a chain goes on (R58, R75, R80) -/

/-- A place of the walk at a card boundary. -/
structure Position where
  link : Link
  next : NextStep
  stack : List Link
  span : Option SpanFrame
  deriving DecidableEq, Repr

/-- The level ends with no span active: pop until a return link that is not NULL; none ends the walk COMPLETE (R75). -/
def unwind : List Link → Option Position
  | [] => none
  | top :: rest => if top = .null then unwind rest else some { link := top, next := .nextCard, stack := rest, span := none }

/-- The walk goes on at a link with no span active; a NULL link ends the level (R75). -/
def followPlain (l : Link) (stack : List Link) : Option Position :=
  if l = .null then unwind stack else some { link := l, next := .nextCard, stack := stack, span := none }

/-- The exit link recorded at the last read of the body; none recorded is a free link (R78, log 7). -/
def SpanFrame.exitLink (f : SpanFrame) : Link :=
  f.exit.getD (linkOfBits (Config.absentExitLink f.body.toBits.toNat))

/-- The span ends: the walk goes on at its exit link (R80). -/
def SpanFrame.leave (f : SpanFrame) (stack : List Link) : Option Position := followPlain f.exitLink stack

/-- An iteration of the span ends (R80). The current index is kept whole, also past the 15 bits of a resume area (log 53). -/
def SpanFrame.iterationEnd (f : SpanFrame) (stack : List Link) : Option Position :=
  let f' := { f with remaining := f.remaining - 1, current := f.current + f.stride }
  if f'.remaining = 0 then f'.leave stack
  else some { link := f.body, next := .nextIteration, stack := stack, span := some f' }

/-- The level ends with a span active (R75). -/
def SpanFrame.levelEnd (f : SpanFrame) : List Link → Option Position
  | [] => none
  | top :: rest =>
    if rest.length = f.depth then f.iterationEnd rest
    else if top = .null then f.levelEnd rest
    else some { link := top, next := .nextCard, stack := rest, span := some f }

/-- The level ends (R75). -/
def levelEnd (stack : List Link) : Option SpanFrame → Option Position
  | none => unwind stack
  | some f => f.levelEnd stack

/-- The walk goes on at a link (R59, R75). -/
def followLink (l : Link) (stack : List Link) (span : Option SpanFrame) : Option Position :=
  if l = .null then levelEnd stack span else some { link := l, next := .nextCard, stack := stack, span := span }

/-- The link of the card in progress: the body link for a span's body, else the current link (R59, R71). -/
def Walk.cardLink (w : Walk) : Link := if w.body then (w.span.map (·.body)).getD w.link else w.link

/-- A card is complete, and the walk goes on at a place or ends COMPLETE; then the card boundary (R63). -/
def State.goTo (s : State) (p : Option Position) : State :=
  match p with
  | none => s.endWalkAtCard .complete .none none
  | some p =>
    (s.changeWalk fun w =>
      { w with link := p.link, next := p.next, stack := p.stack, span := p.span, fresh := false, body := false,
               phase := .ready }).cardBoundary

/-- Where the walk goes when a card is complete: a span body ends its iteration, any other card continues at its next
link (R58). -/
def Walk.afterCard (w : Walk) (c : Card) : Option Position :=
  match w.span with
  | none => followLink c.nextLink w.stack none
  | some f => if w.body then f.iterationEnd w.stack else followLink c.nextLink w.stack (some f)

/-- The card in progress is complete. -/
def State.completeCard (s : State) (c : Card) : State :=
  match s.walk with
  | none => s
  | some w => s.goTo (w.afterCard c)

/-- An END card ends its level, or the iteration when it is the body (R75). -/
def Walk.afterEnd (w : Walk) : Option Position :=
  match w.span with
  | none => unwind w.stack
  | some f => if w.body then f.iterationEnd w.stack else f.levelEnd w.stack

/-! ## Reports of a card (R46, R48, R64, R69) -/

/-- The board slot of the walk; 0 when there is none. -/
def State.walkSlot (s : State) : Nat := (s.walk.map (·.slot)).getD 0

/-- A card is refused: exception entry, refused tally, and the card is complete (R64). -/
def State.refuseCard (s : State) (c : Card) (number : Nat) (k : ExceptionKind) (index : Nat) (ident : BitVec 24) : State :=
  (s.reportWork s.walkSlot .refused
    (some { index := index, ident := ident, kind := k, card := some number, detail := BitVec.ofNat 32 c.kindCode })).completeCard c

/-- The MEMORY_FAULT entry of a faulted application or iteration (R48, R70). -/
def faultEntry (c : Card) (number index : Nat) (ident : BitVec 24) : ExceptionEntry :=
  { index := index, ident := ident, kind := .memoryFault, card := some number, detail := BitVec.ofNat 32 c.kindCode }

/-! ## Stalls (R71, R72) -/

/-- A room stall: a boundary for end requests, parking and HALT, at which the stalled card becomes the current link and is
to be read again (R71). -/
def State.roomStall (s : State) (app : Application) : State :=
  match s.walk with
  | none => s
  | some w =>
    match w.endRequest with
    | some o => s.endWalk o .none none
    | none =>
      let again := s.changeWalk fun w => { w with link := w.cardLink, next := .repeatCard, fresh := false, phase := .ready }
      if w.parkRequest && s.urgentQueued then again.park
      else if !s.walkerRuns then again.changeWalk fun w => { w with parkRequest := false }
      else s.changeWalk fun w => { w with parkRequest := false, phase := .roomStall app false }

/-- A turn stall; an end request that is held ends the walk at once (R72). -/
def State.turnStall (s : State) (app : Application) : State :=
  match s.walk with
  | none => s
  | some w =>
    match w.endRequest with
    | some o => s.endWalk o .none none
    | none => s.changeWalk fun w => { w with phase := .turnStall app false }

/-! ## Applications (R66 to R70) -/

/-- What an application that has not reached ACCEPTED does next; while an end request is held the application is abandoned
unreported instead, its card is complete, and the walk ends (R82, log 17). -/
def State.unlessEnding (s : State) (next : State) : State :=
  match s.walk with
  | none => next
  | some w =>
    match w.endRequest with
    | some o => s.endWalk o .none none
    | none => next

/-- The record read of an application: Q0 and Q2 with an entry, Q0, Q1 and Q3 without (R67). -/
def State.requestRecord (s : State) (app : Application) : State :=
  (s.changeWalk fun w => { w with phase := .reading app }).onCache fun c =>
    { c with
      walkerRequest :=
        some { index := app.index, op := .read (if app.fromEntry then [0, 2] else [0, 1, 3]), purpose := .recordRead } }

/-- The opening question and the record read (R67). -/
def State.openApplication (s : State) (c : Card) (number index : Nat) : State :=
  let app : Application := { card := c, cardNumber := number, index := index, fromEntry := false }
  match s.askMap index with
  | .inTurn => s.turnStall app
  | .present => s.requestRecord { app with fromEntry := true }
  | .noEntry => s.requestRecord app

/-- The ticket whose walk is in progress. -/
def State.walkTicket (s : State) : Option Ticket := s.ticket s.walkSlot

/-- The engine's inputs for an application whose record has been read (R67). -/
def Application.engineInput (app : Application) (kind : CardKind) (ws : List Word) : EngineInput :=
  let panel := recordIsPanel ws
  { kind := kind, card := app.card, panel := panel, basis := recordBasis ws, net := recordNet ws,
    working := imageRead ws (if app.fromEntry then 8 else 4) panel }

/-- ACCEPTED: the Roster holds the decision, and Q2 is written whole (R68, R188). -/
def State.stageImage (s : State) (app : Application) (t : Ticket) (ws : List Word) (im : Image) (clamped : Bool)
    (raw : Int) (version : BitVec 16) : State :=
  let d : Decision := { ticket := s.walkSlot, cls := t.cls, activation := t.activation, version := version }
  let s :=
    if app.fromEntry then s.openDecision app.index d
    else
      s.openNewEntry
        { index := app.index, ident := recordIdent ws, slot := wakeSlot app.index,
          phase := wakePhase app.index (recordExponent ws), exponent := recordExponent ws, rushing := recordRushing ws,
          rushDay := recordRushDay ws, decision := d }
  let st : Staging := { ident := recordIdent ws, image := im, clamped := clamped, raw := raw, version := version }
  (s.changeWalk fun w => { w with phase := .writing app st }).onCache fun c =>
    { c with
      walkerRequest :=
        some { index := app.index, purpose := .stageImage,
               op := .write (stagedWords im version t.activation (BitVec.ofNat 5 s.walkSlot)) } }

/-- The enter request of a new image, and what the walker does with its answer (R68). -/
def State.enterChange (s : State) (app : Application) (t : Ticket) (ws : List Word) (im : Image) (clamped : Bool)
    (raw : Int) : State :=
  match s.enterAnswer app.index app.fromEntry t.cls (recordDisplayed ws) with
  | .inTurn => s.turnStall app
  | .changed => s.openApplication app.card app.cardNumber app.index
  | .noRoom => s.roomStall app
  | .accepted version => s.stageImage app t ws im clamped raw version

/-- The record of an application has been read, and the application is computed and entered (R66, R67). -/
def State.recordArrived (s : State) (app : Application) (ws : List Word) : State :=
  let ident := recordIdent ws
  match app.card.kind, s.walkTicket with
  | some kind, some t =>
    if ident = 0#24 ∨ ident = Config.badIdentifier then
      s.refuseCard app.card app.cardNumber .badTarget app.index ident
    else
      match evaluate (app.engineInput kind ws) with
      | .badBase => s.refuseCard app.card app.cardNumber .badBase app.index ident
      | .notApplied => (s.reportWork s.walkSlot .guarded none).completeCard app.card
      | .same => (s.reportWork s.walkSlot .unchanged none).completeCard app.card
      | .newImage im clamped raw => s.enterChange app t ws im clamped raw
  | _, _ => s

/-- An application is counted faulted, and its card is complete (R68, R70). -/
def State.applicationFaulted (s : State) (app : Application) (ident : BitVec 24) : State :=
  (s.reportWork s.walkSlot .faulted (some (faultEntry app.card app.cardNumber app.index ident))).completeCard app.card

/-- The Q2 write of an accepted change has been made: the Roster's decision, a CLAMPED exception, applied (R68). -/
def State.imageStaged (s : State) (app : Application) (st : Staging) : State :=
  let s := s.completeDecision app.index
  let exc : Option ExceptionEntry :=
    if st.clamped then
      some { index := app.index, ident := st.ident, kind := .clamped, card := some app.cardNumber,
             detail := BitVec.ofInt 32 st.raw }
    else none
  (s.reportWork s.walkSlot .applied exc).completeCard app.card

/-- The Q2 write of an accepted change received MEMORY_FAULT (R68, R112). -/
def State.imageFaulted (s : State) (app : Application) (st : Staging) : State :=
  (s.dropDecision app.index).applicationFaulted app st.ident

/-! ## Cards (R58, R62, R64) -/

/-- What an INCLUDE card does (R76). -/
def State.includeCard (s : State) (w : Walk) (t : Ticket) (c : Card) (number : Nat) : State :=
  if 4 ≤ w.stack.length then s.endWalkAtCard .abridged .depth (some number)
  else
    match s.resolveLink t.chainBase c.targetLink with
    | .null => s.completeCard c
    | .bad => s.endWalkAtCard .abridged .badLink (some number)
    | .card _ => s.goTo (some { link := c.targetLink, next := .nextCard, stack := c.nextLink :: w.stack, span := w.span })

/-- The span frame a SPAN card creates (R77). -/
def Card.spanFrame (c : Card) (depth : Nat) : SpanFrame :=
  { start := bitsOf c.w8 0 14, remaining := c.w12.toNat, stride := c.w16.toNat, current := bitsOf c.w8 0 14,
    startDepartment := none, untilDepartment := c.untilDepartment, body := c.nextLink, exit := none, depth := depth }

/-- A MARK card reports its tag (R74). -/
def State.markCard (s : State) (c : Card) : State :=
  ((s.changeTicket s.walkSlot fun t => { t with progressMark := c.w8 }).putTicketWord s.walkSlot 16 c.w8).completeCard c

/-- Act on a card that passed checks 1 to 4 (R58, R64, R66). Check 5 is made in the card's application, which a held end
request abandons (R69, R82). -/
def State.actByKind (s : State) (w : Walk) (t : Ticket) (c : Card) (number : Nat) (k : CardKind) : State :=
  match k with
  | .price | .adjustPercent | .adjustAmount | .badge =>
    let index := if c.spanMode then (w.span.map (·.current)).getD 0 else c.targetIndex
    s.unlessEnding
      (if s.directorySize ≤ index then s.refuseCard c number .badTarget index 0#24
       else s.openApplication c number index)
  | .span =>
    s.goTo (some { link := c.nextLink, next := .nextIteration, stack := w.stack, span := some (c.spanFrame w.stack.length) })
  | .include => s.includeCard w t c number
  | .mark => s.markCard c
  | .chainEnd => s.goTo w.afterEnd

/-- Check a card in the order of R64, and act on it. -/
def State.actOnCard (s : State) (c : Card) (number : Nat) : State :=
  match s.walk, s.walkTicket with
  | some w, some t =>
    match c.kind with
    | none => s.refuseCard c number .badKind c.targetIndex 0#24
    | some k =>
      if k = .span ∧ w.span.isSome then s.refuseCard c number .nestedSpan c.targetIndex 0#24
      else if !c.operandsInRange k then s.refuseCard c number .badOperand c.targetIndex 0#24
      else if k.targeting ∧ c.spanMode ∧ w.span = none then s.refuseCard c number .noSpan c.targetIndex 0#24
      else s.actByKind w t c number k
  | _, _ => s

/-- What reading a card at a link comes to (R62). -/
inductive CardFetch where
  /-- the link is NULL -/
  | levelEnds
  /-- the walk ended at the link or at the card -/
  | ended (s : State)
  | card (s : State) (c : Card) (number : Nat)

/-- The walker reads the card at a link: link, card limit, count, parity, in the order of R62. A repeated card is neither
limited nor counted. -/
def State.fetchCard (s : State) (l : Link) (counted : Bool) : CardFetch :=
  match s.walkTicket with
  | none => .ended s
  | some t =>
    match s.resolveLink t.chainBase l with
    | .null => .levelEnds
    | .bad => .ended (s.endWalkAtCard .abridged .badLink t.lastCard)
    | .card number =>
      if counted ∧ t.cardLimit ≤ (t.tally .cardsRead).toNat then
        .ended (s.endWalkAtCard .abridged .runaway t.lastCard)
      else
        let s := if counted then s.countTally s.walkSlot .cardsRead else s
        let s := s.changeTicket s.walkSlot fun t => { t with lastCard := some number }
        if s.ram.anyFaulty (32 * number) 8 then
          .ended ((s.latch .memoryFault).endWalkAtCard .abridged .memory (some number))
        else .card s (s.readCard number) number

/-- Record a body's next link as the exit link (R59, R78). -/
def State.recordExit (s : State) (c : Card) : State :=
  s.changeWalk fun w => { w with span := w.span.map fun f => { f with exit := some c.nextLink } }

/-- The walker is at rest with a walk and may take its next step. -/
def State.walkReady (s : State) : Option Walk :=
  match s.walk with
  | none => none
  | some w => if s.walkerRuns && w.phase == .ready then some w else none

/-- The step NEXT_CARD or REPEAT_CARD (R61, R62). -/
def State.stepCard (s : State) : State :=
  match s.walkReady with
  | none => s
  | some w =>
    if w.next = .nextIteration then s
    else
      match s.fetchCard w.link (w.next == .nextCard) with
      | .levelEnds => s.goTo (levelEnd w.stack w.span)
      | .ended s' => s'
      | .card s' c number => (if w.body then s'.recordExit c else s').actOnCard c number

/-- The link that the step NEXT_ITERATION follows: the body link (R78), but a current link of form code 3, which only a
rewritten resume area can bring about, is followed as the bad link it is (R187). -/
def Walk.iterationLink (w : Walk) (f : SpanFrame) : Link :=
  match w.link with
  | .undefinedForm b => .undefinedForm b
  | _ => f.body

/-- The step NEXT_ITERATION: read the body and ask for Q0 of the current index (R78). -/
def State.stepIteration (s : State) : State :=
  match s.walkReady with
  | none => s
  | some w =>
    match w.span with
    | none => s
    | some f =>
      if w.next = .nextIteration then
        match s.fetchCard (w.iterationLink f) true with
        | .levelEnds => s.goTo (levelEnd w.stack w.span)
        | .ended s' => s'
        | .card s' c number =>
          let s' := s'.recordExit c
          if s.directorySize ≤ f.current then s'.goTo ({ f with exit := some c.nextLink }.leave w.stack)
          else
            (s'.changeWalk fun w => { w with body := true, phase := .iterating c number }).onCache fun ca =>
              { ca with walkerRequest := some { index := f.current, op := .read [0], purpose := .spanTest } }
      else s

/-- Q0 of a span iteration's index has been read: tests 3 to 6 of R78. The entry of test 5 carries the span's current index
(log 42). The body acts in HALTED too, as part of the card that HALT lets complete (log 43). -/
def State.spanTested (s : State) (c : Card) (number : Nat) (ws : List Word) : State :=
  match s.walk with
  | none => s
  | some w =>
    match w.span with
    | none => s
    | some f =>
      let dept := recordDepartment ws
      let start := f.startDepartment.getD dept
      let s := s.changeWalk fun w => { w with span := some { f with startDepartment := some start } }
      let ident := recordIdent ws
      if f.untilDepartment && dept != start then s.goTo (f.leave w.stack)
      else if ident = 0#24 then (s.reportWork w.slot .vacant none).completeCard c
      else if ident = Config.badIdentifier then s.refuseCard c number .badTarget f.current ident
      else s.actOnCard c number

/-- The Q0 read of a span iteration received MEMORY_FAULT: test 2 of R78. Its entry carries the span's current index (log
42). -/
def State.spanTestFaulted (s : State) (c : Card) (number : Nat) (ident : BitVec 24) : State :=
  match s.walk with
  | none => s
  | some w =>
    match w.span with
    | none => s
    | some f =>
      let s := s.reportWork w.slot .faulted (some (faultEntry c number f.current ident))
      if f.untilDepartment && f.startDepartment.isNone then s.goTo (f.leave w.stack) else s.completeCard c

/-- The application of a room stall is made over from the record read (R71). -/
def State.retryRoom (s : State) : State :=
  match s.walk with
  | none => s
  | some w =>
    match w.phase with
    | .roomStall app true => s.requestRecord app
    | _ => s

/-- The application of a turn stall is made over from its opening question (R72). -/
def State.retryTurn (s : State) : State :=
  match s.walk with
  | none => s
  | some w =>
    match w.phase with
    | .turnStall app true => s.openApplication app.card app.cardNumber app.index
    | _ => s

/-! ## End requests (R51, R52, R82) -/

/-- The walker is between cards, stopped by HALT, or in a room or turn stall, and so ends at once (R82). -/
def WalkPhase.endsAtOnce : WalkPhase → Bool
  | .ready | .roomStall _ _ | .turnStall _ _ => true
  | .iterating _ _ | .reading _ | .writing _ _ => false

/-- The Ticket Unit asks the walk to end with an outcome: at once, or when the card in progress completes (R82). -/
def State.requestWalkEnd (s : State) (o : TicketOutcome) : State :=
  match s.walk with
  | none => s
  | some w =>
    if w.phase.endsAtOnce then s.endWalk o .none none
    else s.changeWalk fun w => { w with endRequest := some o }

/-- The Ticket Unit asks for parking, after taking an URGENT ticket (R42). A walk between two cards, or in a room stall,
is at a boundary now; a walk that has read no card yet holds the request until its first. -/
def State.requestParking (s : State) : State :=
  match s.walk with
  | none => s
  | some w =>
    let asked := s.changeWalk fun w => { w with parkRequest := true }
    match w.phase with
    | .ready => if w.fresh then asked else asked.cardBoundary
    | .roomStall app _ => asked.roomStall app
    | .turnStall _ _ | .iterating _ _ | .reading _ | .writing _ _ => asked

/-- HALT is taken: a room stall stops with REPEAT_CARD; a walk at rest with a parking request is parked (R43, R81). A walk
that has read no card yet stops before its first card, or is parked there (log 41). -/
def State.haltWalk (s : State) : State :=
  match s.walk with
  | none => s
  | some w =>
    match w.phase with
    | .ready => s.cardBoundary
    | .roomStall app _ => s.roomStall app
    | .turnStall _ _ | .iterating _ _ | .reading _ | .writing _ _ => s

end Sys2Proof.Machine
end

