-- ==== Sys2Proof/Machine/Board.lean ====
section
/-! DEFINITION. The Ticket Unit's work on the batch board (R35 to R39), deadlines (R51) and cancellation (R52, R53). -/

namespace Sys2Proof.Machine

/-! ## Sweeps (R35) -/

/-- The part is RUNNING and HALT has not been taken: a sweep may start (R35, R54). -/
def State.sweepsStart (s : State) : Bool := s.host.runState == .running && !s.halting

/-- A sweep starts, and the sweep timer restarts (R35). -/
def State.startSweep (s : State) : State :=
  s.onUnit fun u => { u with sweepActive := true, sweepTimer := some 0 }

/-- A NUDGE write or a timer expiry: a sweep starts, or the pending-sweep mark is set (R35). -/
def State.askSweep (s : State) : State :=
  if s.unit.sweepActive then s.onUnit fun u => { u with sweepPending := true } else s.startSweep

/-- The sweep in progress has read its 32 words: a pending sweep starts at once, except under HALT (R35). -/
def State.endSweep (s : State) : State :=
  let s' := s.onUnit fun u => { u with sweepActive := false, sweepPending := false }
  if s.unit.sweepPending && s.sweepsStart then s'.startSweep else s'

/-! ## Taking a ticket (R38, R39) -/

/-- A ticket's host-written fields, as the record holds them. -/
structure TicketFields where
  sequence : Word
  chainBase : Nat
  firstLink : Link
  cardLimit : Nat
  classCode : Nat
  activation : Word
  deadline : Word
  listAddress : Nat
  listCapacity : Nat
  deriving DecidableEq, Repr

/-- The offsets of the words that hold the host-written fields (10_memory_layouts.md, "Ticket Record"). -/
def hostFieldOffsets : List Nat := [4, 92, 96, 100, 104, 108, 112, 116]

/-- One word of the ticket record in a board slot. -/
def State.ticketWord (s : State) (n off : Nat) : Word := s.ram.word (s.ticketOffset n off)

/-- Whether a word of the ticket record in a board slot meets a parity fault. -/
def State.ticketFaulty (s : State) (n off : Nat) : Bool := s.ram.faulty (s.ticketOffset n off)

/-- Read the host-written fields of a board slot. -/
def State.readTicket (s : State) (n : Nat) : TicketFields :=
  { sequence := s.ticketWord n 4
    chainBase := (s.ticketWord n 92).toNat
    firstLink := linkOfWord (s.ticketWord n 96)
    cardLimit := bitsOf (s.ticketWord n 100) 0 24
    classCode := bitsOf (s.ticketWord n 100) 24 8
    activation := s.ticketWord n 104
    deadline := s.ticketWord n 108
    listAddress := (s.ticketWord n 112).toNat
    listCapacity := bitsOf (s.ticketWord n 116) 0 16 }

/-- Check 6 of R38: the exception list. -/
def State.listAccepted (s : State) (f : TicketFields) : Bool :=
  f.listCapacity == 0
    || (decide (f.listCapacity ≤ 4095) && f.listAddress % 16 == 0
        && decide (f.listAddress + 16 * f.listCapacity ≤ Config.ramBytes)
        && !s.meetsFixed f.listAddress (16 * f.listCapacity))

/-- Check 7 of R38: activation time and deadline. -/
def TicketFields.timesAccepted (f : TicketFields) : Bool :=
  f.activation == 0#32 || f.deadline == 0#32 || decide (f.activation.toNat ≤ f.deadline.toNat)

/-- Checks 2 to 7 of R38: the reason of the first that fails. -/
def State.ticketFault (s : State) (f : TicketFields) : Option Reason :=
  if 2 ≤ f.classCode then some .badClass
  else if f.chainBase % 32 ≠ 0 ∨ Config.ramBytes ≤ f.chainBase then some .badChain
  else if f.cardLimit = 0 then some .badLimit
  else if s.resolveLink f.chainBase f.firstLink = .bad then some .badLink
  else if !s.listAccepted f then some .badList
  else if !f.timesAccepted then some .badTimes
  else none

/-- A deadline has come by a store time (R39, R51). -/
def deadlineReached (deadline now : Word) : Bool := deadline != 0#32 && decide (deadline.toNat ≤ now.toNat)

/-- The context of a ticket as it is taken (R39). -/
def TicketFields.context (f : TicketFields) : Ticket :=
  { state := .queued, cls := if f.classCode = 1 then .urgent else .overnight, sequence := f.sequence,
    chainBase := f.chainBase, firstLink := f.firstLink, cardLimit := f.cardLimit, activation := f.activation,
    deadline := f.deadline, listAddress := f.listAddress, listCapacity := f.listCapacity,
    tallies := List.replicate 17 0#32, entriesWritten := 0, overflow := 0, progressMark := 0, outcome := none,
    reason := .none, stopCard := none, cancelled := false, expired := false, expiryDue := false, lastCard := none }

/-- The walk in progress is that of an OVERNIGHT ticket. -/
def State.overnightWalking (s : State) : Bool := s.walk.isSome && s.walkTicket.any fun t => t.cls == .overnight

/-- A ticket has been taken: an URGENT one asks for parking while an OVERNIGHT walk is in progress (R42). -/
def State.afterTaking (s : State) (t : Ticket) : State :=
  if t.cls == .urgent && s.overnightWalking then s.requestParking else s

/-- Take the POSTED ticket of a slot that is not held (R38, R39). -/
def State.takeTicket (s : State) (n : Nat) : State :=
  if hostFieldOffsets.any fun off => s.ticketFaulty n off then
    (s.latch .memoryFault).settleUnheld n .malformed .memory
  else
    let f := s.readTicket n
    match s.ticketFault f with
    | some r => s.settleUnheld n .malformed r
    | none =>
      if deadlineReached f.deadline s.time.storeTime then s.settleUnheld n .expired .none
      else ((s.setTicket n f.context).zeroTallies n).afterTaking f.context

/-! ## The sweep of a slot (R36, R37) -/

/-- R36: a slot whose context is NOT_HELD. -/
def State.sweepUnheld (s : State) (n : Nat) (w : Word) : State :=
  if w = handoffFree ∨ w = handoffSettled then s
  else if w = handoffPosted then s.takeTicket n
  else s.latch .boardClash

/-- R37: a slot whose context is held. -/
def State.sweepHeld (s : State) (n : Nat) (t : Ticket) (w : Word) : State :=
  if w = t.state.handoff then s else (s.putTicketWord n 0 t.state.handoff).latch .boardClash

/-- The sweep reads the handoff word of a slot and acts on it. -/
def State.sweepSlot (s : State) (n : Nat) : State :=
  if s.ticketFaulty n 0 then (s.latch .boardClash).latch .memoryFault
  else
    match s.ticket n with
    | none => s.sweepUnheld n (s.ticketWord n 0)
    | some t => s.sweepHeld n t (s.ticketWord n 0)

/-- Slots 0 to 31, one after another; the arbiter then chooses among the tickets taken, while the walker is free (R35,
R39, R40, log 38). -/
def State.sweepBoard (s : State) : State := ((List.range 32).foldl State.sweepSlot s).arbitrate

/-! ## Deadlines (R51) -/

/-- A second tick has reached the deadline of a held ticket whose expired mark is clear (R51). -/
def Ticket.comesDue (t : Ticket) (now : Word) : Bool := !t.expired && deadlineReached t.deadline now

/-- The Ticket Unit compares every held deadline with the store time of a tick (R51). The expiries found are taken one
by one, as TICKET_EXPIRY. -/
def State.markExpiries (s : State) (now : Word) : State :=
  s.onUnit fun u =>
    { u with tickets := u.tickets.map fun p => (p.1, { p.2 with expiryDue := p.2.expiryDue || p.2.comesDue now }) }

/-- Change the provisional outcome, with no reason. -/
def Ticket.withOutcome (t : Ticket) (o : TicketOutcome) : Ticket := { t with outcome := some o, reason := .none }

/-- A held ticket expires, by its context state (R51). -/
def State.expireTicket (s : State) (n : Nat) (t : Ticket) : State :=
  let t := { t with expired := true, expiryDue := false }
  let s := s.setTicket n t
  match t.state with
  | .queued => (s.setTicket n (t.withOutcome .expired)).settle n
  | .walking => if t.cancelled then s else s.requestWalkEnd .expired
  | .parked => s.endTicketWalk n .expired .none none
  | .delivering =>
    let s := if t.cancelled then s else s.setTicket n (t.withOutcome .expired)
    (s.expireEntries n).finishCancel

/-- The Ticket Unit takes the expiry of the ticket in a slot, found due at a second tick (R51). -/
def State.takeExpiry (s : State) (n : Nat) : State :=
  match s.ticket n with
  | none => s
  | some t => if t.expiryDue && !t.expired then s.expireTicket n t else s

/-! ## Cancellation (R52, R53) -/

/-- The command stays in progress with its result to come (R173). -/
def State.beginCommand (s : State) (c : ActiveCommand) : State := s.onHost fun h => { h with active := some c }

/-- The command gives a result at once (R173). -/
def State.giveResult (s : State) (r : CommandResult) : State := s.onHost fun h => { h with lastResult := r }

/-- CANCEL of a held ticket (R52). -/
def State.cancelHeld (s : State) (n : Nat) (t : Ticket) : State :=
  let marked := (s.setTicket n { t with cancelled := true }).beginCommand (.cancel n)
  match t.state with
  | .queued => ((s.setTicket n (t.withOutcome .cancelled)).settle n).giveResult .done
  | .walking => if t.expired then s.giveResult .done else (marked.requestWalkEnd .cancelled).finishCancel
  | .parked => if t.expired then s.giveResult .done else marked.endTicketWalk n .cancelled .none none
  | .delivering =>
    if t.expired || t.cancelled then s.giveResult .done
    else
      (((marked.setTicket n { t.withOutcome .cancelled with cancelled := true }).cancelEntries n).finishCancel)

/-- CANCEL of a slot that is not held (R53). -/
def State.cancelUnheld (s : State) (n : Nat) : State :=
  if s.ticketFaulty n 0 then (s.latch .memoryFault).giveResult .notHeld
  else if s.ticketWord n 0 = handoffPosted then (s.settleUnheld n .cancelled .none).giveResult .done
  else s.giveResult .notHeld

/-- CANCEL n, n at most 31 (R52, R53). -/
def State.cancelTicket (s : State) (n : Nat) : State :=
  match s.ticket n with
  | none => s.cancelUnheld n
  | some t => s.cancelHeld n t

end Sys2Proof.Machine
end

