-- ==== Sys2Proof/Machine/Timebase.lean ====
section
/-! DEFINITION. The Timebase (R18 to R31): store time, second ticks, cycle starts, and the stop of the schedule that
completes HALT (R24). -/

namespace Sys2Proof.Machine

/-! ## Store time (R18, R20) -/

/-- A second tick: store time increases by one, the live rush state is evaluated, and the Ticket Unit compares the
deadlines it holds (R18, R27, R51). While store time is unset there are no ticks. -/
def State.tickSecond (s : State) : State :=
  if s.time.timeSet then
    let now := s.time.storeTime + 1#32
    ((s.onTime fun t => { t with storeTime := now, subSecond := 0 }).refreshRush).markExpiries now
  else s

/-- A host write of STORE_TIME (R20). -/
def State.setStoreTime (s : State) (v : Word) : State :=
  (s.onTime fun t => { t with storeTime := v, timeSet := true, subSecond := 0 }).refreshRush

/-! ## The schedule (R22 to R25) -/

/-- The radio after a cycle start: a set restart mark returns it from FAULT (R143). -/
def AirLink.atCycleStart (a : AirLink) : AirLink :=
  let a := if a.radio = .fault ∧ a.restartMark then { a with radio := .active, restartMark := false, lostSlots := 0 } else a
  { a with stage := if a.radio = .active then .beaconSense 0 else .idle }

/-- The Timebase at a cycle start (R22, R23, R28, R29). -/
def Timebase.atCycleStart (t : Timebase) : Timebase :=
  { t with
    cycleNumber := t.nextCycle, nextCycle := t.nextCycle + 1#16, cycleTime := t.storeTime, cycleRush := t.liveRush,
    position := .beacon, periodOver := false, periodMs := 0 }

/-- A cycle start, as the Timebase, the Roster and the Air Link Controller take it (R22, R113, R130). -/
def State.startCycle (s : State) : State :=
  let renewal := rushRenewal s.time.cycleRush s.time.liveRush
  let now := s.time.storeTime
  ((s.onTime Timebase.atCycleStart).onRoster fun r =>
    { r with entries := r.entries.map fun e => e.atCycleStart renewal now }).onAir AirLink.atCycleStart

/-- The schedule stops at the end of a period under HALT: radio OFF from ACTIVE, HALTED, HALT gives DONE (R24, R128). -/
def State.completeHalt (s : State) : State :=
  (((s.onTime fun t => { t with position := .stopped, periodOver := false, periodMs := 0 }).onAir fun a =>
      { a with radio := if a.radio = .active then .off else a.radio, stage := .idle }).onHost fun h =>
    { h with runState := .halted }).finishCommand .done

/-- The start of the next period, or the completion of HALT in its place (R24). -/
def State.nextPeriod (s : State) (start : State → State) : State := if s.halting then s.completeHalt else start s

/-- The cycle start after slot 63 (R22). -/
def State.cycleStartDue (s : State) : Bool :=
  s.host.runState == .running && s.time.position == .slot 63 && s.time.periodOver

/-- The slot whose start comes next: slot 0 after the beacon period, slot s + 1 after the end of slot s (R22). -/
def Timebase.nextSlot (t : Timebase) : Option (Fin 64) :=
  match t.position with
  | .stopped => none
  | .beacon => some 0
  | .slot k => if t.periodOver ∧ k.val < 63 then some (k + 1) else none

/-- The slot in progress, whose end comes next (R22). -/
def Timebase.openSlot (t : Timebase) : Option (Fin 64) :=
  match t.position with
  | .slot k => if t.periodOver then none else some k
  | .stopped | .beacon => none

end Sys2Proof.Machine
end

