-- ==== Sys2Proof/Machine/Frames.lean ====
section
/-! DEFINITION. The frames on the air (R129, R131, R134, R135, R138), byte by byte as 10_memory_layouts.md places them. -/

namespace Sys2Proof.Machine

/-! ## The frame check (R129) -/

/-- One bit of the cyclic check. The register is held lowest bit first, and so is the value that the frame carries
(log 45). -/
def crcBit (r : BitVec 16) (b : Bool) : BitVec 16 :=
  let fed := r.getLsbD 0 ^^ b
  let shifted := r >>> 1
  if fed then shifted ^^^ 0x8408#16 else shifted

/-- One byte, lowest bit first. -/
def crcByte (r : BitVec 16) (b : Byte) : BitVec 16 := (List.range 8).foldl (fun r k => crcBit r (b.getLsbD k)) r

/-- The check of a frame's bytes from its cell code to its last content byte: generator x^16 + x^12 + x^5 + 1, started
from all ones, not inverted at the end. -/
def frameCheck (bytes : List Byte) : BitVec 16 := bytes.foldl crcByte 0xFFFF#16

/-- The bytes of a value, least significant first (R186). -/
def bytesOf16 (v : BitVec 16) : List Byte := [v.extractLsb' 0 8, v.extractLsb' 8 8]
def bytesOf24 (v : BitVec 24) : List Byte := [v.extractLsb' 0 8, v.extractLsb' 8 8, v.extractLsb' 16 8]
def bytesOf32 (v : Word) : List Byte := [v.extractLsb' 0 8, v.extractLsb' 8 8, v.extractLsb' 16 8, v.extractLsb' 24 8]

/-- The value of bytes given least significant first. -/
def valueOf16 (a b : Byte) : BitVec 16 := (b ++ a : BitVec 16)
def valueOf24 (a b c : Byte) : BitVec 24 := (c ++ b ++ a : BitVec 24)

/-! ## Frame kinds -/

def kindBeacon : Byte := 1#8
def kindRollCall : Byte := 2#8
def kindReply : Byte := 6#8

/-- The kind byte of a turn's frame. -/
def TurnFrame.kindByte : TurnFrame → Byte
  | .update => 3#8
  | .probe => 4#8
  | .withdraw => 5#8

/-- A whole frame: cell code, kind, contents, check, low byte first. -/
def frameOf (cell : BitVec 16) (kind : Byte) (contents : List Byte) : List Byte :=
  let body := bytesOf16 cell ++ kind :: contents
  body ++ bytesOf16 (frameCheck body)

/-! ## Frames the part sends -/

/-- The BEACON of a cycle (R131). -/
def State.beaconFrame (s : State) : List Byte :=
  let rush := s.time.cycleRush.isOpen
  let floor : Byte := if rush then s.batteryFloor.zeroExtend 8 else 0#8
  frameOf s.cellCode kindBeacon
    (bytesOf16 s.time.cycleNumber ++ bytesOf32 s.time.cycleTime ++ [(BitVec.ofBool rush).zeroExtend 8, floor])

/-- A turn is named in the roll call unless it was dropped (R135). -/
def AirTurn.named (t : AirTurn) : Bool := t.content != .dropped

/-- The roll-call entry of a turn. -/
def AirTurn.rollEntry (t : AirTurn) : List Byte := bytesOf24 t.ident ++ [BitVec.ofNat 8 t.number, t.frame.kindByte]

/-- The ROLL_CALL of a slot (R135). -/
def rollCallFrame (cell : BitVec 16) (slot : Nat) (turns : List AirTurn) : List Byte :=
  let named := turns.filter AirTurn.named
  frameOf cell kindRollCall (BitVec.ofNat 8 slot :: BitVec.ofNat 8 named.length :: named.flatMap AirTurn.rollEntry)

def UnitBasis.byte (b : UnitBasis) : Byte := BitVec.ofNat 8 b.code

/-- The content of an UPDATE, from its content kind on, by the kind read from Q0 (R134). -/
def updateContent (ws : List Word) : List Byte :=
  let panel := recordIsPanel ws
  let im := imageRead ws 8 panel
  let basis := (recordBasis ws).byte
  if panel then
    1#8 :: (bytesOf24 (price24 im.primary) ++ bytesOf24 (price24 im.partner) ++ bytesOf24 (price24 im.unit)
      ++ [basis, im.badges])
  else 0#8 :: (packDigits (digitString im.primary) ++ packDigits (unitDigitString im.unit) ++ [basis])

/-- The frame of a turn, once its content is known (R134, R136). -/
def AirTurn.frameBytes (t : AirTurn) (cell : BitVec 16) : Option (List Byte) :=
  match t.content with
  | .ready content =>
    let head := bytesOf24 t.ident ++ bytesOf16 t.version
    some
      (match t.frame with
       | .update => frameOf cell t.frame.kindByte (head ++ bytesOf32 t.activation ++ content)
       | .probe | .withdraw => frameOf cell t.frame.kindByte head)
  | .awaited | .dropped => none

/-! ## Replies (R138) -/

def ReplyResult.ofCode : Nat → Option ReplyResult
  | 1 => some .staged
  | 2 => some .shown
  | 3 => some .rejected
  | 4 => some .withdrawn
  | _ => none

/-- The frame check of a received frame verifies (check 1 of R138). -/
def checkVerifies (frame : List Byte) : Bool :=
  decide (2 ≤ frame.length)
    && frame.drop (frame.length - 2) == bytesOf16 (frameCheck (frame.take (frame.length - 2)))

/-- The bytes of a REPLY from its label identifier to its link quality, when the frame is a REPLY of this cell: checks 1
to 3. A REPLY has fifteen bytes; a frame of another length is none (log 9). -/
def replyContents (cell : BitVec 16) (frame : List Byte) : Option (List Byte) :=
  if checkVerifies frame && frame.length == 15 && frame.take 2 == bytesOf16 cell && frame.getD 2 0#8 == kindReply then
    some ((frame.drop 3).take 10)
  else none

/-- Read a received frame against a turn's identifier: a valid reply, or none (R138). -/
def readReply (cell : BitVec 16) (ident : BitVec 24) (frame : List Byte) : Option Reply :=
  match replyContents cell frame with
  | none => none
  | some c =>
    let b := fun k => c.getD k 0#8
    if valueOf24 (b 0) (b 1) (b 2) = ident then
      match ReplyResult.ofCode (b 3).toNat with
      | none => none
      | some result =>
        some
          { result := result
            displayed := valueOf16 (b 4) (b 5)
            staged := if (b 8).getLsbD 0 then some (valueOf16 (b 6) (b 7)) else none
            battery := (b 8).extractLsb' 4 4
            rushing := (b 8).getLsbD 1
            quality := b 9 }
    else none

end Sys2Proof.Machine
end

