-- ==== Sys2Proof/Machine/AirLink.lean ====
section
/-! DEFINITION. The Air Link Controller (R127 to R143): beacons, roll calls, turns, reply windows and the Key Monitor. -/

namespace Sys2Proof.Machine

/-! ## The transmitter (R129, R142) -/

/-- Key the transmitter for a frame; the Key Monitor's measure starts, or goes on while the transmitter is still keyed
(R142). -/
def State.keyFrame (s : State) (frame : List Byte) : State :=
  s.onAir fun a => { a with onAir := some frame, keyedMs := if a.onAir.isSome then a.keyedMs else 0 }

/-- Unkey the transmitter; the Key Monitor's measure returns to 0. -/
def State.unkey (s : State) : State := s.onAir fun a => { a with onAir := none, keyedMs := 0 }

def State.setStage (s : State) (g : AirStage) : State := s.onAir fun a => { a with stage := g }

/-- The radio is ACTIVE. -/
def State.radioActive (s : State) : Bool := s.air.radio == .active

/-! ## The beacon (R130, R131) -/

/-- A channel sense of the beacon period: the beacon goes out at the first clear one and is skipped after three busy. -/
def State.senseBeacon (s : State) (busy : Bool) : State :=
  match s.air.stage with
  | .beaconSense n =>
    if !s.radioActive then s
    else if busy then s.setStage (if n + 1 < 3 then .beaconSense (n + 1) else .idle)
    else (s.setStage .idle).keyFrame s.beaconFrame
  | .idle | .slotSense _ | .serving _ _ => s

/-! ## Slot starts (R132, R134, R141) -/

/-- The record read of an UPDATE turn, Q0 and Q2 (R134, R149). -/
def AirTurn.readRequest (t : AirTurn) : Request :=
  { index := t.index, op := .read [0, 2], purpose := .updateContent t.number }

/-- Ask for the records of the UPDATE turns, in turn order. -/
def State.askTurnReads (s : State) (turns : List AirTurn) : State :=
  (turns.filter fun t => t.frame == .update).foldl (fun s t => s.askAir t.readRequest) s

/-- The turn list reaches the controller: an idle slot, a slot lost at once in a radio that is not ACTIVE, or a slot to be
sensed (R132, R133, R141). -/
def State.receiveTurns (s : State) (slot : Nat) (turns : List AirTurn) : State :=
  if turns.isEmpty then s
  else if s.radioActive then
    (s.onAir fun a => { a with turns := turns, stage := .slotSense 0 }).askTurnReads turns
  else s.returnEntries slot

/-- A slot start: the slot position, then turn selection, then the controller (R22, R115, R132). -/
def State.startSlot (s : State) (k : Fin 64) : State :=
  let s := s.onTime fun t => { t with position := .slot k, periodOver := false, periodMs := 0 }
  let s := s.onAir fun a => { a with turns := [], stage := .idle }
  let chosen := s.roster.selected k.val s.time.cycleNumber
  (s.enterTurns (chosen.map (·.index))).receiveTurns k.val (turnsFrom 1 chosen)

/-! ## Withdrawn reads (R134, R149) -/

/-- The request is an UPDATE read. -/
def Request.isTurnRead (r : Request) : Bool :=
  match r.purpose with
  | .updateContent _ => true
  | .replyStatus | .confirmRead | .confirmWrite | .deliveryState | .spanTest | .recordRead | .stageImage => false

/-- Withdraw every UPDATE read: one not yet granted leaves the queue, one granted and set aside does too and its mark is
lifted (log 46), and one that has started a fill leaves the fill to run with its quarters delivered to no one (R134,
R149). -/
def Cache.withdrawTurnReads (c : Cache) : Cache :=
  { c with
    airRequests := c.airRequests.filter fun r => !r.isTurnRead
    airAside := c.airAside && !(c.airRequests.head?.any Request.isTurnRead)
    fill := c.fill.map fun f => if f.request.any Request.isTurnRead then { f with request := none } else f }

/-- Drop every UPDATE turn whose content is not known (R134). -/
def AirTurn.dropAwaited (t : AirTurn) : AirTurn := if t.content = .awaited then { t with content := .dropped } else t

/-- The roll call is due, or the slot is lost or over: turns still without content are dropped, and their reads withdrawn. -/
def State.dropAwaitedTurns (s : State) : State :=
  (s.onAir fun a => { a with turns := a.turns.map AirTurn.dropAwaited }).onCache Cache.withdrawTurnReads

/-- The answer to an UPDATE read: the turn's content, or its drop on MEMORY_FAULT (R134, R156). -/
def State.turnRead (s : State) (number : Nat) (content : TurnContent) : State :=
  s.onAir fun a =>
    { a with turns := a.turns.map fun t => if t.number = number ∧ t.content = .awaited then { t with content := content } else t }

/-! ## Slot senses (R133, R135) -/

/-- The lost-slot count after a lost slot. -/
def moreLost (n : Nat) : Nat := min 255 (n + 1)

/-- The slot is lost to a busy channel (R133). -/
def State.loseSlot (s : State) (slot : Nat) : State :=
  let s := s.dropAwaitedTurns
  let s := s.onAir fun a => { a with turns := [], stage := .idle, lostSlots := moreLost a.lostSlots }
  (s.returnEntries slot).latchIf (decide (Config.busyThreshold ≤ s.air.lostSlots)) .channelBusy

/-- The roll call is due: it names the turns not dropped, and is not sent when none is left (R134, R135). -/
def State.sendRollCall (s : State) (slot : Nat) : State :=
  let s := s.dropAwaitedTurns
  if s.air.turns.any AirTurn.named then
    (s.onAir fun a => { a with stage := .serving 0 false, lostSlots := 0 }).keyFrame
      (rollCallFrame s.cellCode slot s.air.turns)
  else s.setStage .idle

/-- A channel sense of a slot (R133). The third busy one loses the slot, also when MEMORY_FAULT has dropped every turn of it
(log 47). -/
def State.senseSlot (s : State) (busy : Bool) : State :=
  match s.air.stage, s.time.openSlot with
  | .slotSense n, some k =>
    if !s.radioActive then s
    else if busy then (if n + 1 < 3 then s.setStage (.slotSense (n + 1)) else s.loseSlot k.val)
    else s.sendRollCall k.val
  | _, _ => s

/-! ## Turns and reply windows (R136 to R139) -/

/-- The turn of a number. -/
def AirLink.turn (a : AirLink) (number : Nat) : Option AirTurn := a.turns.find? fun t => t.number == number

/-- The frame of a turn goes out; an UPDATE sets its entry's offered mark (R104, R136). -/
def State.sendTurn (s : State) (t : AirTurn) (frame : List Byte) : State :=
  let s := (s.setStage (.serving t.number false)).keyFrame frame
  if t.frame = .update then s.changeEntry t.index fun e => { e with offered := true } else s

/-- The start time of a turn comes (R136). The times of turns run in their order, and no window is open at one. -/
def State.startTurn (s : State) (number : Nat) : State :=
  match s.air.stage with
  | .serving last false =>
    if number ≤ last then s
    else
      match s.air.turn number with
      | none => s
      | some t =>
        match t.frameBytes s.cellCode with
        | none => s
        | some frame => s.sendTurn t frame
  | .serving _ true | .idle | .beaconSense _ | .slotSense _ => s

/-- The turn in progress, not yet reported, with its window as given. -/
def AirLink.openTurn (a : AirLink) (window : Bool) : Option AirTurn :=
  match a.stage with
  | .serving number w =>
    if w = window then (a.turn number).filter fun t => !t.reported else none
  | .idle | .beaconSense _ | .slotSense _ => none

/-- The reply window of the turn in progress opens (R136). -/
def State.openWindow (s : State) : State :=
  match s.air.openTurn false with
  | none => s
  | some t => s.setStage (.serving t.number true)

/-- The turn has been reported, and the controller looks at no second frame in its window (R138, R139). -/
def State.closeTurn (s : State) (number : Nat) : State :=
  s.onAir fun a =>
    { a with
      stage := .serving number false
      turns := a.turns.map fun t => if t.number = number then { t with reported := true } else t }

/-- The first frame to arrive in the open window decides the turn (R138, R139). -/
def State.receiveFrame (s : State) (frame : List Byte) : State :=
  match s.air.openTurn true with
  | none => s
  | some t =>
    let s := s.closeTurn t.number
    match readReply s.cellCode t.ident frame with
    | some r => s.reportReply t.index r
    | none => s.reportSilence t.index

/-- The open window closes empty: no valid reply (R137, R139). -/
def State.closeWindow (s : State) : State :=
  match s.air.openTurn true with
  | none => s
  | some t => (s.closeTurn t.number).reportSilence t.index

/-! ## Slot ends (R140) -/

/-- A slot ends: the turn list is cleared, its unread records withdrawn, and entries without a result return (R116, R140).
Under HALT the schedule stops here (R24). -/
def State.endSlot (s : State) (k : Fin 64) : State :=
  let s := s.onTime fun t => { t with periodOver := true }
  let s := (s.onCache Cache.withdrawTurnReads).onAir fun a => { a with turns := [], stage := .idle }
  (s.returnEntries k.val).nextPeriod id

/-! ## FAULT (R142, R143) -/

/-- The Key Monitor trips: unkeyed, RADIO_FAULT latched, radio in FAULT; nothing more of the period is sent, sensed or
reported (R142). -/
def State.tripKeyMonitor (s : State) : State :=
  (s.onAir fun a => { a with onAir := none, keyedMs := 0, radio := .fault, stage := .idle }).latch .radioFault

/-- RADIO_RESTART: the restart mark in FAULT, WRONG_STATE in OFF and ACTIVE (R143). -/
def State.restartRadio (s : State) : State :=
  if s.air.radio = .fault then (s.onAir fun a => { a with restartMark := true }).giveResult .done
  else s.giveResult .wrongState

end Sys2Proof.Machine
end

