-- ==== Sys2Proof/Machine/Cache.lean ====
section
/-! DEFINITION. The Directory Cache (R148 to R169): lines, lookups, fills, pushes and the write policies. -/

namespace Sys2Proof.Machine

/-! ## Lines (R148) -/

/-- The set of a record. -/
def cacheSet (index : Nat) : Nat := index / 64 % 64

/-- A line is DIRTY exactly when a quarter mark of it is set. -/
def Line.isDirty (l : Line) : Bool := l.dirty != 0#4

/-- The key, 4 × set + way, of the way of its set that holds a record. -/
def Cache.lookup (c : Cache) (index : Nat) : Option Nat :=
  ((List.range 4).map fun way => 4 * cacheSet index + way).find? fun key =>
    (assocFind key c.lines).any fun l => l.index == index

/-- The way and line that hold a record. -/
def Cache.lineOf (c : Cache) (index : Nat) : Option (Nat × Line) :=
  match c.lookup index with
  | none => none
  | some key => (assocFind key c.lines).map fun l => (key, l)

def Cache.putLine (c : Cache) (key : Nat) (l : Line) : Cache := { c with lines := assocPut key l c.lines }

/-- Make a way INVALID. -/
def Cache.dropLine (c : Cache) (key : Nat) : Cache := { c with lines := assocDrop key c.lines }

/-- The mark of a quarter. -/
def quarterMark (q : Nat) : BitVec 4 := 1#4 <<< q

/-- Write words of a line without marking. -/
def writeWords (ws : List Word) (changes : List (Nat × Word)) : List Word :=
  changes.foldl (fun ws p => ws.set p.1 p.2) ws

/-- The marks of the quarters that written words fall in. -/
def marksOf (changes : List (Nat × Word)) : BitVec 4 := changes.foldl (fun m p => m ||| quarterMark (p.1 / 4)) 0#4

/-! ## Requests (R149) -/

/-- The quarters a request needs (R153). -/
def CacheOp.quarters : CacheOp → List Nat
  | .read qs => qs
  | .write words => words.map fun p => p.1 / 4
  | .update words => words.map fun p => p.1 / 4
  | .countMiss => [3]

/-- The words a request writes, given the words of the record. -/
def CacheOp.changes (ws : List Word) : CacheOp → List (Nat × Word)
  | .read _ => []
  | .write words => words
  | .update words => words.map fun (k, mask, value) => (k, (recordWord ws k &&& ~~~ mask) ||| (value &&& mask))
  | .countMiss => [(12, missWord (recordWord ws 12))]

/-- The request is a write. -/
def CacheOp.isWrite : CacheOp → Bool
  | .write _ => true
  | .read _ | .update _ | .countMiss => false

/-- The request is a read. -/
def CacheOp.isRead : CacheOp → Bool
  | .read _ => true
  | .write _ | .update _ | .countMiss => false

/-- The lowest-numbered quarter a request needs. -/
def CacheOp.firstQuarter (op : CacheOp) : Nat := op.quarters.foldl min 3

/-! ## Regions (R2) -/

/-- The region of an index is BACK. -/
def State.isBack (s : State) (index : Nat) : Bool :=
  (s.load.map fun l => l.policy.getLsbD (index / 1024)).getD false

/-- Write words of a record in RAM. -/
def State.putRecordWords (s : State) (index : Nat) (changes : List (Nat × Word)) : State :=
  changes.foldl (fun s p => s.putWord (s.recordOffset index p.1) p.2) s

/-- Serve a request's words on the line that holds its record, by the region's policy (R157 to R159). -/
def State.serveOnLine (s : State) (key : Nat) (l : Line) (op : CacheOp) : State :=
  let changes := op.changes l.words
  let words := writeWords l.words changes
  if changes.isEmpty then s
  else if s.isBack l.index then
    s.onCache (·.putLine key { l with words := words, dirty := l.dirty ||| marksOf changes })
  else (s.putRecordWords l.index changes).onCache (·.putLine key { l with words := words })

/-! ## Pushes (R154, R165) -/

/-- The words of a quarter of a record. -/
def quarterWords (ws : List Word) (q : Nat) : List (Nat × Word) :=
  (List.range 4).map fun k => (4 * q + k, recordWord ws (4 * q + k))

/-- The quarters a push writes: the one dirty quarter alone, or all four (R154). -/
def pushQuarters (dirty : BitVec 4) : List Nat :=
  let marked := (List.range 4).filter fun q => dirty.getLsbD q
  if marked.length ≤ 1 then marked else [0, 1, 2, 3]

/-- Write a line's dirty quarters to RAM, as a single-quarter or a full four-quarter write (R154). -/
def State.pushRecord (s : State) (l : Line) : State :=
  s.putRecordWords l.index ((pushQuarters l.dirty).flatMap fun q => quarterWords l.words q)

/-- The line after its push: CLEAN, not pending (R165). -/
def Line.pushed (l : Line) : Line := { l with dirty := 0#4, pushPending := false }

/-- A push-pending line stands in a way or in the push buffer. -/
def Cache.anyPending (c : Cache) : Bool :=
  (c.lines.any fun p => p.2.pushPending) || c.pushBuffer.any fun l => l.pushPending

/-- The taking of PUSH_ALL: every DIRTY line and any buffered record is marked push-pending (R165). -/
def Cache.markPending (c : Cache) : Cache :=
  { c with
    lines := c.lines.map fun p => (p.1, if p.2.isDirty then { p.2 with pushPending := true } else p.2)
    pushBuffer := c.pushBuffer.map fun l => { l with pushPending := true }
    sweeper := some 0 }

/-- The sweeper's next push-pending way: from its place on, then from the first way again (R165, R166). -/
def Cache.nextPending (c : Cache) (place : Nat) : Option (Nat × Line) :=
  let pending := c.lines.filter fun p => p.2.pushPending
  match pending.find? fun p => decide (place ≤ p.1) with
  | some p => some p
  | none => pending.head?

/-- The request that the sweeper presents. -/
def Cache.sweeperRequest (c : Cache) : Option (Nat × Line) :=
  match c.sweeper with
  | none => none
  | some place => c.nextPending place

/-- The sweeper's request is granted: the line is pushed and becomes CLEAN (R165). -/
def State.sweepLine (s : State) (key : Nat) (l : Line) : State :=
  (s.pushRecord l).onCache fun c => { (c.putLine key l.pushed) with sweeper := some (key + 1) }

/-! ## Ways of a set and fills (R152, R153) -/

/-- The way a fill takes: the lowest-numbered INVALID one, else the one the replacement counter names (R152). -/
def Cache.wayFor (c : Cache) (index : Nat) : Nat :=
  let keys := (List.range 4).map fun way => 4 * cacheSet index + way
  (keys.find? fun key => (assocFind key c.lines).isNone).getD (4 * cacheSet index + c.replacement.toNat)

/-- A fill starts: the counter increases, a DIRTY victim moves to the push buffer and a CLEAN one is dropped (R152,
R153). -/
def Cache.startFill (c : Cache) (who : Requester) (r : Request) : Cache :=
  let key := c.wayFor r.index
  let victim := (assocFind key c.lines).filter Line.isDirty
  { (c.dropLine key) with
    replacement := c.replacement + 1#2
    pushBuffer := victim
    fill := some { key := key, index := r.index, requester := who, request := some r, first := r.op.firstQuarter, arrived := [] } }

/-- The quarter read at a place of a fill's order: rising from the first, wrapping from Q3 to Q0 (R153). -/
def Fill.quarterAt (f : Fill) (k : Nat) : Nat := (f.first + k) % 4

/-- A quarter of the fill's record meets a parity fault when read. -/
def State.quarterFaulty (s : State) (f : Fill) (q : Nat) : Bool := s.ram.anyFaulty (s.recordOffset f.index (4 * q)) 4

/-- Read the next quarter of a fill into the line read buffer, if there is one and it meets no fault. -/
def State.readQuarter (s : State) (f : Fill) : Fill :=
  let q := f.quarterAt f.arrived.length
  if 4 ≤ f.arrived.length ∨ s.quarterFaulty f q then f
  else { f with arrived := f.arrived ++ [s.ram.words (s.recordOffset f.index (4 * q)) 4] }

/-- Read on to the end of the record, or to the first quarter that meets a fault. -/
def State.readOn (s : State) (f : Fill) : Fill :=
  s.readQuarter (s.readQuarter (s.readQuarter (s.readQuarter f)))

/-- The quarters that have arrived. -/
def Fill.quarters (f : Fill) : List Nat := (List.range f.arrived.length).map f.quarterAt

/-- The record as the line read buffer holds it; a quarter that has not arrived is given as 0 and is not read. -/
def Fill.words (f : Fill) : List Word :=
  (List.range 4).flatMap fun q =>
    match (List.range f.arrived.length).find? fun k => f.quarterAt k == q with
    | some k => (f.arrived.getD k []).takeD 4 0#32
    | none => List.replicate 4 0#32

/-- All four quarters have arrived. -/
def Fill.complete (f : Fill) : Bool := decide (4 ≤ f.arrived.length)

/-- The line that a completed fill installs: CLEAN (R153). -/
def Fill.line (f : Fill) : Line := { index := f.index, words := f.words, dirty := 0#4, pushPending := false }

end Sys2Proof.Machine
end

