-- ==== Sys2Proof/Machine/Snoop.lean ====
section
/-! DEFINITION. Host accesses of the RAM (R170, R171) and the snoop of the coherent alias (R160 to R164). -/

namespace Sys2Proof.Machine

/-! ## The window (R170) -/

/-- What a host address reaches. Addresses are word-aligned; the two lowest bits are not decoded. -/
inductive Reach where
  | coherent (offset : Nat)
  | direct (offset : Nat)
  | register (k : Nat)
  | nothing
  deriving DecidableEq, Repr

/-- The decode of the 16 MiB window (R170). -/
def decodeWindow (addr : BitVec 24) : Reach :=
  let a := 4 * (addr.toNat / 4)
  if a < 0x400000 then .coherent a
  else if a < 0x800000 then .nothing
  else if a < 0xC00000 then .direct (a - 0x800000)
  else if a < 0xF00000 then .nothing
  else if a < 0xF00018 then .register ((a - 0xF00000) / 4)
  else .nothing

/-! ## RAM accesses (R171) -/

/-- The host read of a RAM word: the stored data, and HOST_PARITY when its parity does not match. -/
def State.ramRead (s : State) (off : Nat) : State :=
  (s.onHost fun h => { h with readData := some (s.ram.word off) }).latchIf (s.ram.faulty off) .hostParity

/-- The host write of a RAM word, with fresh parity. -/
def State.ramWrite (s : State) (off : Nat) (w : Word) : State := s.onRam (·.setWord off w)

/-! ## The snoop (R160 to R162) -/

/-- The offset lies in the directory area of the load in effect (R1). There is none before a load, in LOAD_FAULT, and
from the Loader's invalidation on (R169, R170, R180, R183). -/
def State.inDirectory (s : State) (off : Nat) : Bool :=
  s.load.isSome && s.host.runState != .loadFault && s.loader != .checking
    && decide (s.directoryBase ≤ off) && decide (off < s.directoryBase + 64 * s.directorySize)

/-- The index of the record that holds a word of the directory area. -/
def State.indexAt (s : State) (off : Nat) : Nat := (off - s.directoryBase) / 64

/-- The number of that word within its record. -/
def State.wordAt (s : State) (off : Nat) : Nat := (off - s.directoryBase) % 64 / 4

/-- Where the snoop finds a record (R160). -/
inductive Found where
  | clean (key : Nat)
  | dirty (key : Nat) (l : Line)
  | buffered (l : Line)
  | notHeld
  deriving DecidableEq, Repr

/-- The snoop's lookup, in the four ways of the set and in the push buffer. -/
def Cache.find (c : Cache) (index : Nat) : Found :=
  match c.lineOf index with
  | some (key, l) => if l.isDirty then .dirty key l else .clean key
  | none =>
    match c.pushBuffer with
    | some l => if l.index = index then .buffered l else .notHeld
    | none => .notHeld

/-- A snoop read (R161). -/
def State.snoopWordRead (s : State) (off : Nat) : State :=
  match s.cache.find (s.indexAt off) with
  | .dirty _ l | .buffered l => s.onHost fun h => { h with readData := some (recordWord l.words (s.wordAt off)) }
  | .clean _ | .notHeld => s.ramRead off

/-- A line into which the host's word has been sunk, with its quarter's mark (R162). -/
def Line.sink (l : Line) (k : Nat) (w : Word) : Line :=
  { l with words := l.words.set k w, dirty := l.dirty ||| quarterMark (k / 4) }

/-- A snoop write (R162). -/
def State.snoopWordWrite (s : State) (off : Nat) (w : Word) : State :=
  match s.cache.find (s.indexAt off) with
  | .clean key => (s.ramWrite off w).onCache (·.dropLine key)
  | .dirty key l => s.onCache (·.putLine key (l.sink (s.wordAt off) w))
  | .buffered l => s.onCache fun c => { c with pushBuffer := some (l.sink (s.wordAt off) w) }
  | .notHeld => s.ramWrite off w

/-! ## Accesses, held and answered (R163, R167) -/

/-- The address of an access. -/
def HostAccess.addr : HostAccess → BitVec 24
  | .read a => a
  | .write a _ => a

/-- Answer a read that waits for nothing. A register read gives the register's word, and an address that reaches nothing
gives 0 (R170, R172). -/
def State.answerRead (s : State) (addr : BitVec 24) : State :=
  match decodeWindow addr with
  | .coherent off => if s.inDirectory off then s.snoopWordRead off else s.ramRead off
  | .direct off => s.ramRead off
  | .register k => s.onHost fun h => { h with readData := some (s.registerWord k) }
  | .nothing => s.onHost fun h => { h with readData := some 0#32 }

/-- Carry out a RAM write that waits for nothing. -/
def State.answerWrite (s : State) (addr : BitVec 24) (w : Word) : State :=
  match decodeWindow addr with
  | .coherent off => if s.inDirectory off then s.snoopWordWrite off w else s.ramWrite off w
  | .direct off => s.ramWrite off w
  | .register _ | .nothing => s

def State.answerAccess (s : State) : HostAccess → State
  | .read addr => s.answerRead addr
  | .write addr w => s.answerWrite addr w

/-- DROP_ALL has been taken and waits for the fill in progress (R167). -/
def State.dropping (s : State) : Bool := s.host.active == some .dropAll

/-- A snoop of this offset is set aside: it names the record being filled, or DROP_ALL waits (R163, R167). -/
def State.snoopWaits (s : State) (off : Nat) : Bool :=
  s.inDirectory off && ((s.cache.fill.any fun f => f.index == s.indexAt off) || s.dropping)

/-- The Host Link holds this access: it must wait, or an earlier access of RAM is held (R163). -/
def State.holds (s : State) (addr : BitVec 24) : Bool :=
  match decodeWindow addr with
  | .coherent off => !s.host.held.isEmpty || s.snoopWaits off
  | .direct _ => !s.host.held.isEmpty
  | .register _ | .nothing => false

/-- A host access of the window other than a register write. -/
def State.access (s : State) (a : HostAccess) : State :=
  if s.holds a.addr then s.onHost fun h => { h with held := h.held ++ [a] } else s.answerAccess a

/-- The wait is over: the accesses held are answered, oldest first. -/
def State.drainHeld (s : State) : State :=
  s.host.held.foldl State.answerAccess (s.onHost fun h => { h with held := [] })

end Sys2Proof.Machine
end

