-- ==== Sys2Proof/Machine/Port.lean ====
section
/-! DEFINITION. The cache port (R149 to R151, R153, R155, R165, R167): grants, answers to the requesters, and the end of a
fill. -/

namespace Sys2Proof.Machine

/-! ## Answers (R151, R155, R156) -/

/-- The answer to a request: the record's words with the quarters of it that are known, or MEMORY_FAULT. -/
inductive Answer where
  | served (words : List Word) (quarters : List Nat)
  | fault
  deriving DecidableEq, Repr

/-- What the walker is doing. -/
def State.walkPhase (s : State) : Option WalkPhase := s.walk.map (·.phase)

/-- A Q0 read of a span iteration has been answered (R78). -/
def State.answerSpanTest (s : State) (a : Answer) : State :=
  match s.walkPhase with
  | some (.iterating c number) =>
    match a with
    | .served ws _ => s.spanTested c number ws
    | .fault => s.spanTestFaulted c number 0#24
  | _ => s

/-- The identifier an abandoned fill's buffer gives, 0 when Q0 did not arrive (R70). -/
def identArrived (ws : List Word) (quarters : List Nat) : BitVec 24 :=
  if quarters.contains 0 then recordIdent ws else 0#24

/-- A record read of an application has been answered (R67, R70). The application has not reached ACCEPTED, so a held end
request abandons it unreported, whatever the answer (R73, R82). -/
def State.answerRecord (s : State) (a : Answer) (ident : BitVec 24) : State :=
  match s.walkPhase with
  | some (.reading app) =>
    s.unlessEnding
      (match a with
       | .served ws _ => s.recordArrived app ws
       | .fault => s.applicationFaulted app ident)
  | _ => s

/-- A Q2 write of an application has been answered (R68). -/
def State.answerStage (s : State) (a : Answer) : State :=
  match s.walkPhase with
  | some (.writing app st) =>
    match a with
    | .served _ _ => s.imageStaged app st
    | .fault => s.imageFaulted app st
  | _ => s

/-- Deliver an answer to the requester, by what the request was for (R156). -/
def State.deliver (s : State) (r : Request) (a : Answer) (ident : BitVec 24) : State :=
  match r.purpose with
  | .updateContent number =>
    match a with
    | .served ws _ => s.turnRead number (.ready (updateContent ws))
    | .fault => s.turnRead number .dropped
  | .replyStatus => s.statusWritten r.index
  | .confirmRead =>
    match a with
    | .served ws quarters => s.confirmRead r.index ws (quarters.contains 0)
    | .fault => s.endTurn r.index
  | .confirmWrite =>
    match a with
    | .served _ _ => s.writeBackDelivery r.index
    | .fault => s.endTurn r.index
  | .deliveryState => s.deliveryWritten r.index
  | .spanTest => s.answerSpanTest a
  | .recordRead => s.answerRecord a ident
  | .stageImage => s.answerStage a

/-! ## The requesters' queues (R149, R150) -/

/-- The request that a requester presents: the oldest, unless it is set aside or has started the fill in progress. When
the starting request has been withdrawn, its requester presents the next one while that fill still runs (log 51). -/
def Cache.presented (c : Cache) (who : Requester) : Option Request :=
  if c.fill.any fun f => f.requester == who && f.request.isSome then none
  else
    match who with
    | .airRoster => if c.airAside then none else c.airRequests.head?
    | .delivery => if c.deliveryAside then none else c.deliveryRequests.head?
    | .walker => if c.walkerAside then none else c.walkerRequest

/-- Take a requester's oldest request off its queue. -/
def Cache.popRequest (c : Cache) : Requester → Cache
  | .airRoster => { c with airRequests := c.airRequests.tail }
  | .delivery => { c with deliveryRequests := c.deliveryRequests.tail }
  | .walker => { c with walkerRequest := none }

/-- Set a requester's request aside (R150). -/
def Cache.setAside (c : Cache) : Requester → Cache
  | .airRoster => { c with airAside := true }
  | .delivery => { c with deliveryAside := true }
  | .walker => { c with walkerAside := true }

/-- Every request set aside waits again (R150). -/
def Cache.resumeAside (c : Cache) : Cache := { c with airAside := false, deliveryAside := false, walkerAside := false }

/-- A part-side request and its requester, the highest-ranked that waits (R149). -/
def Cache.chosen (c : Cache) : Option (Requester × Request) :=
  match c.presented .airRoster with
  | some r => some (.airRoster, r)
  | none =>
    match c.presented .delivery with
    | some r => some (.delivery, r)
    | none => (c.presented .walker).map fun r => (.walker, r)

/-! ## Completion of the cache commands (R165, R167, R169) -/

/-- Every way INVALID (R167, R169). -/
def Cache.invalidate (c : Cache) : Cache := { c with lines := [] }

/-- PUSH_ALL completes when no push-pending line remains (R165). -/
def State.finishPush (s : State) : State :=
  if s.host.active = some .pushAll ∧ s.cache.anyPending = false then
    (s.onCache fun c => { c with sweeper := none }).finishCommand .done
  else s

/-- DROP_ALL completes when no fill is in progress (R167). -/
def State.finishDrop (s : State) : State :=
  if s.dropping ∧ s.cache.fill.isNone then (s.onCache Cache.invalidate).finishCommand .done else s

/-- The Loader's push is done when no fill is in progress and nothing is push-pending: every way INVALID, the
replacement counter 0, and the header is read next (R169, R180). -/
def State.finishLoaderPush (s : State) : State :=
  if s.loader = .pushing ∧ s.cache.fill.isNone ∧ s.cache.anyPending = false then
    (s.onCache fun c => { c.invalidate with replacement := 0#2, sweeper := none }).withLoader .checking
  else s

/-- The cache commands that can complete now do. -/
def State.finishCacheCommands (s : State) : State := ((s.finishPush).finishDrop).finishLoaderPush

/-! ## Granting (R150, R151) -/

/-- A granted request must wait for the fill in progress (R150, R151). -/
def Cache.mustWait (c : Cache) (index : Nat) : Bool :=
  (c.fill.any fun f => f.index == index) || (c.pushBuffer.any fun l => l.index == index)

/-- A hit: the request is served on the line, and answered (R151, R157 to R159). -/
def State.grantHit (s : State) (who : Requester) (r : Request) (key : Nat) (l : Line) : State :=
  ((s.serveOnLine key l r.op).onCache (·.popRequest who)).deliver r (.served l.words [0, 1, 2, 3]) 0#24

/-- A write miss in a THROUGH region: RAM alone (R157). -/
def State.grantThrough (s : State) (who : Requester) (r : Request) : State :=
  ((s.putRecordWords r.index (r.op.changes [])).onCache (·.popRequest who)).deliver r (.served [] []) 0#24

/-- A miss that needs a fill: it starts one, or is set aside while one is in progress (R151, R153). -/
def State.grantMiss (s : State) (who : Requester) (r : Request) : State :=
  if s.cache.fill.isSome then s.onCache (·.setAside who)
  else s.onCache fun c => (c.popRequest who).startFill who r

/-- Grant a part-side request (R151). A write miss in a THROUGH region goes to RAM at once, also while another record's fill
runs: R151 and R157 serve it without a fill, and R150 sets aside a request that misses then (log 50). -/
def State.grantRequest (s : State) (who : Requester) (r : Request) : State :=
  if s.cache.mustWait r.index then s.onCache (·.setAside who)
  else
    match s.cache.lineOf r.index with
    | some (key, l) => s.grantHit who r key l
    | none => if r.op.isWrite && !s.isBack r.index then s.grantThrough who r else s.grantMiss who r

/-- The port arbiter grants the highest-ranked waiting request; the sweeper's comes last. Nothing is granted while
DROP_ALL waits (R150, R165, R167). -/
def State.grantPort (s : State) : State :=
  if s.dropping then s
  else
    match s.cache.chosen with
    | some (who, r) => s.grantRequest who r
    | none =>
      match s.cache.sweeperRequest with
      | some (key, l) => (s.sweepLine key l).finishCacheCommands
      | none => s

/-! ## The end of a fill (R153, R155) -/

/-- The fill has ended, with its push: set-aside requests wait again, commands that waited for it complete, and the
accesses the Host Link held are answered (R150, R163, R165, R167, R169). -/
def State.endFill (s : State) : State :=
  ((s.onCache fun c => { c.resumeAside with fill := none }).finishCacheCommands).drainHeld

/-- The push of the record in the push buffer, when it holds one (R154). -/
def State.pushBuffered (s : State) : State :=
  match s.cache.pushBuffer with
  | none => s
  | some l => (s.pushRecord l).onCache fun c => { c with pushBuffer := none }

/-- A completed fill: installation, service of the starting request, push (R153). -/
def State.completeFill (s : State) (f : Fill) : State :=
  let s := s.onCache (·.putLine f.key f.line)
  let served :=
    match f.request with
    | none => s
    | some r => s.serveOnLine f.key f.line r.op
  let ended := served.pushBuffered.endFill
  match f.request with
  | none => ended
  | some r => ended.deliver r (.served f.words [0, 1, 2, 3]) 0#24

/-- All four quarters of the fill in progress have arrived (R153). -/
def State.installFill (s : State) : State :=
  match s.cache.fill with
  | none => s
  | some f =>
    let f := s.readOn f
    if f.complete then s.completeFill f else s

/-- The answer that an abandoned fill gives its starting request (R155). -/
def Fill.lastAnswer (f : Fill) (r : Request) : Answer :=
  if r.op.isRead && r.op.quarters.all fun q => f.quarters.contains q then .served f.words f.quarters else .fault

/-- A fill that has met a parity fault: a DIRTY victim goes back into its way, MEMORY_FAULT is latched, and the starting
request is answered from the line read buffer (R155). -/
def State.abandonComplete (s : State) (f : Fill) : State :=
  let s :=
    match s.cache.pushBuffer with
    | none => s
    | some l => s.onCache fun c => { (c.putLine f.key l) with pushBuffer := none }
  let ended := (s.latch .memoryFault).endFill
  match f.request with
  | none => ended
  | some r => ended.deliver r (f.lastAnswer r) (identArrived f.words f.quarters)

/-- A word still to be read of the fill in progress meets a parity fault (R155). -/
def State.abandonFill (s : State) : State :=
  match s.cache.fill with
  | none => s
  | some f =>
    let f := s.readOn f
    if f.complete then s else s.abandonComplete f

end Sys2Proof.Machine
end

