-- ==== Sys2Proof/Machine/Loader.lean ====
section
/-! DEFINITION. The Loader (R55, R179 to R183, R185). -/

namespace Sys2Proof.Machine

/-! ## RELOAD: clearing the chip (R180) -/

/-- The Timebase's RELOAD state: the schedule stopped, the next cycle number 0, the previous cycle rush state CLOSED;
store time goes on (R31). -/
def Timebase.atReload (t : Timebase) : Timebase :=
  { t with
    nextCycle := 0#16, position := .stopped, periodOver := false, periodMs := 0, cycleRush := .closed,
    cycleNumber := 0#16, cycleTime := 0#32 }

/-- Step 1 of R169: every part-side request is withdrawn; a fill in progress runs on, delivered to no one. A write or an
update that started that fill is withdrawn too, and is not made at its installation, which is the model's choice: R169 does
not say (log 56). -/
def Cache.withdrawAll (c : Cache) : Cache :=
  { c.resumeAside with
    airRequests := [], deliveryRequests := [], walkerRequest := none
    fill := c.fill.map fun f => { f with request := none } }

/-- The part becomes LOADING: steps 1 to 4 of R180, with the push begun. A RELOAD during a load does the same (R185). The
push runs alongside a fill that is still in progress (log 49). -/
def State.startLoad (s : State) : State :=
  let s := s.onTime Timebase.atReload
  let s := s.onAir fun _ => AirLink.reset
  let s := ((s.onUnit fun _ => TicketUnit.reset).withWalk none).onRoster fun _ => Roster.reset
  let s := s.onCache fun c => c.withdrawAll.markPending
  let s := s.onHost fun h => { h with runState := .loading, active := some .reload }
  (s.withLoader .pushing).finishLoaderPush

/-! ## The header and the settings block (R179, R181, R182) -/

/-- The header fields, as stored. -/
structure Header where
  signature : Word
  layout : Word
  boardBase : Nat
  directoryBase : Nat
  directorySize : Nat
  settingsBase : Nat
  deriving DecidableEq, Repr

def State.readHeader (s : State) : Header :=
  { signature := s.ram.word 0, layout := s.ram.word 4, boardBase := (s.ram.word 8).toNat,
    directoryBase := (s.ram.word 12).toNat, directorySize := (s.ram.word 16).toNat,
    settingsBase := (s.ram.word 20).toNat }

/-- Check 4 of R181: alignments, size, and each area within the RAM. -/
def Header.inRange (h : Header) : Bool :=
  h.boardBase % 4096 == 0 && decide (h.boardBase + 4096 ≤ Config.ramBytes)
    && h.directoryBase % 65536 == 0
    && h.directorySize % 64 == 0 && decide (64 ≤ h.directorySize) && decide (h.directorySize ≤ 16384)
    && decide (h.directoryBase + 64 * h.directorySize ≤ Config.ramBytes)
    && h.settingsBase % 64 == 0 && decide (h.settingsBase + 64 ≤ Config.ramBytes)

/-- Check 5 of R181: two of the fixed areas overlap. -/
def Header.overlaps (h : Header) : Bool :=
  let d := 64 * h.directorySize
  areasMeet 0 64 h.boardBase 4096 || areasMeet 0 64 h.directoryBase d || areasMeet 0 64 h.settingsBase 64
    || areasMeet h.boardBase 4096 h.directoryBase d || areasMeet h.boardBase 4096 h.settingsBase 64
    || areasMeet h.directoryBase d h.settingsBase 64

/-- Checks 2 to 5 of R181: the code of the first that fails, NONE when all pass. -/
def Header.faultCode (h : Header) : LoadFaultCode :=
  if h.signature ≠ Config.signature then .badSignature
  else if h.layout ≠ 1#32 then .badLayout
  else if !h.inRange then .badRange
  else if h.overlaps then .overlap
  else .none

/-- The channel as stored in the settings block. -/
def State.storedChannel (s : State) (base : Nat) : Nat := bitsOf (s.ram.word base) 16 8

/-- The settings, under the readings of R179. -/
def State.readSettings (s : State) (h : Header) : Load :=
  let b := h.settingsBase
  { boardBase := h.boardBase, directoryBase := h.directoryBase, directorySize := h.directorySize, settingsBase := b,
    cellCode := (s.ram.word b).extractLsb' 0 16, channel := s.storedChannel b,
    attemptLimit := max 1 (min 15 (bitsOf (s.ram.word b) 24 8)),
    sweepInterval := max 100 (min 5000 (bitsOf (s.ram.word (b + 4)) 0 16)),
    rushStart := (s.ram.word (b + 8)).toNat, rushEnd := (s.ram.word (b + 12)).toNat,
    batteryFloor := (s.ram.word (b + 4)).extractLsb' 16 4,
    policy := (s.ram.word (b + 16)).extractLsb' 0 16 }

/-! ## The board sweep of a load (R55) -/

/-- The eight delivery tallies that stand against entered. -/
def closedTallies : List Tally :=
  [.confirmed, .unconfirmed, .missed, .noReply, .rejected, .superseded, .cancelled, .alreadyShown]

/-- A tally as the Loader reads it: 0 on a parity fault. -/
def State.loadTally (s : State) (ticket : Nat) (k : Tally) : Nat :=
  if s.ram.faulty (ticket + k.offset) then 0 else (s.ram.word (ticket + k.offset)).toNat

/-- A word for a sum of tallies; one that does not fit is a free value (log 4). -/
def tallyWord (sum : Nat) : Word := if sum < 2 ^ 32 then BitVec.ofNat 32 sum else Config.overflowedTally sum

/-- The entered tally that the Loader writes (R55). -/
def State.loadEntered (s : State) (ticket : Nat) : Word :=
  let entered := s.loadTally ticket .entered
  let sum := (closedTallies.map (s.loadTally ticket)).sum
  if entered < sum then tallyWord sum else BitVec.ofNat 32 entered

/-- The interrupted tally that the Loader writes (R55). -/
def State.loadInterrupted (s : State) (ticket : Nat) : Word :=
  BitVec.ofNat 32 (s.loadTally ticket .entered - (closedTallies.map (s.loadTally ticket)).sum)

/-- A tally that the Loader reads meets a parity fault: entered or one of the eight that stand against it. The stored
interrupted tally is not read, and its parity latches nothing, which is the model's choice: R55 does not say (log 55). -/
def State.loadTallyFaulty (s : State) (ticket : Nat) : Bool :=
  (Tally.entered :: closedTallies).any fun k => s.ram.faulty (ticket + k.offset)

/-- Settle the ticket at an offset as INTERRUPTED (R55). -/
def State.interruptTicket (s : State) (ticket : Nat) : State :=
  let entered := s.loadEntered ticket
  let interrupted := s.loadInterrupted ticket
  let closed := closedTallies.map fun k => (k, BitVec.ofNat 32 (s.loadTally ticket k))
  let s := s.latchIf (s.loadTallyFaulty ticket) .memoryFault
  let s := ((Tally.entered, entered) :: closed ++ [(Tally.interrupted, interrupted)]).foldl
    (fun s p => s.putWord (ticket + p.1.offset) p.2) s
  (((s.putWord (ticket + 12) (outcomeWord .interrupted .none)).putWord (ticket + 20) Config.absentWord).putWord ticket
    handoffSettled).latch .settled

/-- The load's sweep of one slot of the board at a base (R55). -/
def State.loadSweepSlot (base : Nat) (s : State) (n : Nat) : State :=
  let ticket := base + 128 * n
  if s.ram.faulty ticket then (s.latch .boardClash).latch .memoryFault
  else
    let w := s.ram.word ticket
    if partOwned w then s.interruptTicket ticket
    else if w = handoffFree ∨ w = handoffPosted ∨ w = handoffSettled then s
    else s.latch .boardClash

/-- The load's board sweep, slot 0 to slot 31. -/
def State.loadSweep (s : State) (base : Nat) : State := (List.range 32).foldl (State.loadSweepSlot base) s

/-! ## The end of a load (R183) -/

/-- RELOAD gives DONE, and CONTROL again names it as the last command (R174, R183). -/
def State.endReload (s : State) (run : RunState) (code : LoadFaultCode) : State :=
  (s.onHost fun h =>
    { h with runState := run, loadFault := code, lastCommand := 3#4, lastResult := .done, active := none }).withLoader
    .idle

/-- The load ends in LOAD_FAULT; the values of the previous load stay held. -/
def State.failLoad (s : State) (code : LoadFaultCode) : State := (s.endReload .loadFault code).latch .loadFault

/-- The load ends in HALTED: header and settings take effect together. -/
def State.completeLoad (s : State) (l : Load) : State :=
  (((s.withLoad (some l)).refreshRush).endReload .halted .none).latch .loaded

/-- The settings block of an accepted header is read, and the board is swept (R182). A parity fault anywhere in the block
comes before a channel above 15, which is the model's choice: R182 gives no order of the two (log 54). -/
def State.loadSettings (s : State) (h : Header) : State :=
  if s.ram.anyFaulty h.settingsBase 16 then (s.failLoad .memory).latch .memoryFault
  else if 15 < s.storedChannel h.settingsBase then s.failLoad .badChannel
  else (s.loadSweep h.boardBase).completeLoad (s.readSettings h)

/-- The Loader reads and checks the header and goes on to the end of the load (R181 to R183). -/
def State.checkLoad (s : State) : State :=
  if s.ram.anyFaulty 0 16 then (s.failLoad .memory).latch .memoryFault
  else
    match s.readHeader.faultCode with
    | .none => s.loadSettings s.readHeader
    | code => s.failLoad code

/-- The Loader stands at the header (R180). -/
def State.loadCheckDue (s : State) : Bool := s.host.runState == .loading && s.loader == .checking

end Sys2Proof.Machine
end

