-- ==== Sys2Proof/Machine/HostLink.lean ====
section
/-! DEFINITION. The Host Link's commands and register writes (R172 to R177). -/

namespace Sys2Proof.Machine

/-! ## The command codes (10_memory_layouts.md, "Registers") -/

/-- The seven commands. -/
inductive Command where
  | run | halt | reload | pushAll | dropAll | cancel | radioRestart
  deriving DecidableEq, Repr

def Command.code : Command → BitVec 4
  | .run => 1 | .halt => 2 | .reload => 3 | .pushAll => 4 | .dropAll => 5 | .cancel => 6 | .radioRestart => 7

/-- The command of a code written to CONTROL; none for 0 and 8 to 15. -/
def Command.ofCode (c : BitVec 4) : Option Command :=
  match c.toNat with
  | 1 => some .run
  | 2 => some .halt
  | 3 => some .reload
  | 4 => some .pushAll
  | 5 => some .dropAll
  | 6 => some .cancel
  | 7 => some .radioRestart
  | _ => none

/-- The run states in which a command is taken (R175). -/
def Command.takenIn : Command → RunState → Bool
  | .run, r => r == .halted
  | .halt, r => r == .running
  | .reload, _ => true
  | .pushAll, r => r == .halted || r == .running
  | .dropAll, r => r == .halted
  | .cancel, r => r == .halted || r == .running
  | .radioRestart, r => r == .halted || r == .running

/-! ## Taken commands (R175) -/

/-- RUN: RUNNING, radio ACTIVE from OFF, a cycle start, a sweep, and the walk or the arbiter; DONE at once (R24, R35, R54,
R128). A sweep left in progress from before HALT stands for RUN's, and keeps its pending mark (log 40). -/
def State.takeRun (s : State) : State :=
  let s := s.onHost fun h => { h with runState := .running, lastResult := .done }
  let s := s.onAir fun a => if a.radio = .off then { a with radio := .active, lostSlots := 0 } else a
  s.startCycle.startSweep.arbitrate

/-- HALT: the sweep timer stops, the walk stops at its boundary, and the schedule runs to the end of the period in
progress; with none in progress it stops now (R24, R54, R81). -/
def State.takeHalt (s : State) : State :=
  let s := ((s.beginCommand .halt).onUnit fun u => { u with sweepTimer := none }).haltWalk
  if s.time.periodOver then s.completeHalt else s

/-- PUSH_ALL: the dirty lines are marked, and the sweeper starts (R165). -/
def State.takePushAll (s : State) : State := ((s.beginCommand .pushAll).onCache Cache.markPending).finishPush

/-- DROP_ALL: at once, or when the fill in progress has ended (R167). -/
def State.takeDropAll (s : State) : State := (s.beginCommand .dropAll).finishDrop

/-- A taken command acts (R175). -/
def State.take (s : State) (c : Command) (argument : Nat) : State :=
  match c with
  | .run => s.takeRun
  | .halt => s.takeHalt
  | .reload => s.startLoad
  | .pushAll => s.takePushAll
  | .dropAll => s.takeDropAll
  | .cancel => s.cancelTicket argument
  | .radioRestart => s.restartRadio

/-! ## A write of CONTROL (R173, R174) -/

/-- The last command becomes the one of a code. -/
def State.nameCommand (s : State) (code : BitVec 4) : State := s.onHost fun h => { h with lastCommand := code }

/-- A refusal: the command and the refusal are recorded, and no flag is set (R173). -/
def State.refuse (s : State) (code : BitVec 4) (r : CommandResult) : State := (s.nameCommand code).giveResult r

/-- A command other than RELOAD is in progress (row 1 of R174). -/
def State.commandBlocks (s : State) : Bool := s.host.active.isSome && s.host.active != some .reload

/-- One of the seven commands, after rows 1 and 2 of R174. -/
def State.judgeCommand (s : State) (c : Command) (argument : Nat) : State :=
  if c = .reload then (s.nameCommand c.code).take c argument
  else if !c.takenIn s.host.runState then s.refuse c.code .wrongState
  else if c = .cancel ∧ 31 < argument then s.refuse c.code .badArgument
  else if c = .run ∧ s.time.timeSet = false then s.refuse c.code .noTime
  else (s.nameCommand c.code).take c argument

/-- A host write of CONTROL with a code and an argument, by the first row of R174 that applies. -/
def State.command (s : State) (code : BitVec 4) (argument : Nat) : State :=
  if s.commandBlocks then s.latch .commandLost
  else
    match Command.ofCode code with
    | none => s.refuse code .badArgument
    | some c => s.judgeCommand c argument

/-! ## The other registers (R172, R176, R177) -/

/-- A NUDGE write asks for a sweep while the part is RUNNING. Once HALT has been taken no further sweep starts; the mark
it sets during a sweep is cleared at that sweep's end (R35, R54). -/
def State.nudged (s : State) : State :=
  if s.host.runState = .running then
    if s.halting then (if s.unit.sweepActive then s.askSweep else s) else s.askSweep
  else s

/-- A write of ATTENTION clears the causes written as 1 (R176). -/
def State.clearAttention (s : State) (v : Word) : State :=
  s.onHost fun h => { h with attention := h.attention &&& ~~~ v.extractLsb' 0 9 }

/-- A write of ATTN_ENABLE replaces every enable (R177). -/
def State.setEnables (s : State) (v : Word) : State := s.onHost fun h => { h with enable := v.extractLsb' 0 9 }

/-- A host write of register k (R172). -/
def State.writeRegister (s : State) (k : Nat) (v : Word) : State :=
  match k with
  | 1 => s.command (v.extractLsb' 4 4) (bitsOf v 16 8)
  | 2 => s.nudged
  | 3 => s.clearAttention v
  | 4 => s.setEnables v
  | 5 => s.setStoreTime v
  | _ => s

/-- A host write of the word at a window address (R170). -/
def State.hostStore (s : State) (addr : BitVec 24) (v : Word) : State :=
  match decodeWindow addr with
  | .register k => s.writeRegister k v
  | .coherent _ | .direct _ | .nothing => s.access (.write addr v)

/-- The channel select output (R127, R129). -/
def State.channelSelect (s : State) : Option Nat := s.load.map (·.channel)

end Sys2Proof.Machine
end

