-- ==== Sys2Proof/Machine/Tick.lean ====
section
/-! DEFINITION. What passes while no command waits (log 10): one millisecond of the crystal, which the counts of time
measure, and the next quarter of a fill. What a count brings about when it runs out is a command of its own. -/

namespace Sys2Proof.Machine

/-- The sub-second count stands still while store time is unset, and waits at 999 for the second tick (R18). The time into
the period in progress stops at the period's length (R22). -/
def Timebase.tick (t : Timebase) : Timebase :=
  { t with
    subSecond := if t.timeSet then min 999 (t.subSecond + 1) else t.subSecond
    periodMs :=
      match t.position with
      | .stopped => t.periodMs
      | .beacon => min Config.beaconMs (t.periodMs + 1)
      | .slot _ => if t.periodOver then t.periodMs else min Config.slotMs (t.periodMs + 1) }

/-- The sweep timer runs up to the sweep interval (R35). -/
def TicketUnit.tick (interval : Nat) (u : TicketUnit) : TicketUnit :=
  { u with sweepTimer := u.sweepTimer.map fun ms => min interval (ms + 1) }

/-- The Key Monitor measures while the transmitter is keyed, up to the trip (R142). -/
def AirLink.tick (a : AirLink) : AirLink :=
  { a with keyedMs := if a.onAir.isSome then min Config.keyLimitMs (a.keyedMs + 1) else a.keyedMs }

/-- The sweep interval of the load in effect (R35). -/
def State.sweepInterval (s : State) : Nat := (s.load.map (·.sweepInterval)).getD 0

/-- The fill in progress reads its next quarter, unless that quarter meets a fault (R153). -/
def State.tickFill (s : State) : State := s.onCache fun c => { c with fill := c.fill.map s.readQuarter }

/-- One millisecond passes. -/
def State.tick (s : State) : State :=
  (((s.onTime Timebase.tick).onUnit (TicketUnit.tick s.sweepInterval)).onAir AirLink.tick).tickFill

end Sys2Proof.Machine
end

