-- ==== Sys2Proof/Machine/HostEvents.lean ====
section
/-! DEFINITION. The meanings of the reset input, of the host's accesses of the window, of the commands of CONTROL and of
the register writes. -/

namespace Sys2Proof.Machine

/-- The outcome of one command. -/
abbrev Result := Host.Outcome State Fault Refusal

/-! ## Power-on reset -/

/-- The part after a power-on reset: the next generation of undefined RAM contents, every block at its power-on values; the
commands that wait are not the part's (R184). -/
def State.powerOn (s : State) : State :=
  { State.reset with pending := s.pending, ram := Ram.powerOn (s.ram.generation + 1) }

/-- POWER_ON_RESET (R184). -/
def execPowerOnReset (s : State) : Result := .next s.powerOn

/-! ## Host accesses -/

/-- HOST_READ (R170, R171). -/
def execHostRead (addr : BitVec 24) (s : State) : Result := .next (s.access (.read addr))

/-- HOST_WRITE (R170, R171); a write to a register address is that register's write (R172). -/
def execHostWrite (addr : BitVec 24) (data : Word) (s : State) : Result := .next (s.hostStore addr data)

/-- SNOOP_READ (R160, R161, R163). -/
def execSnoopRead (addr : BitVec 24) (s : State) : Result := .next (s.access (.read addr))

/-- SNOOP_WRITE (R160, R162, R163). -/
def execSnoopWrite (addr : BitVec 24) (data : Word) (s : State) : Result := .next (s.access (.write addr data))

/-! ## Commands of CONTROL (R174, R175) -/

/-- RUN (R175). -/
def execRun (s : State) : Result := .next (s.command Command.run.code 0)

/-- HALT (R175). -/
def execHalt (s : State) : Result := .next (s.command Command.halt.code 0)

/-- RELOAD (R175, R180, R185). -/
def execReload (s : State) : Result := .next (s.command Command.reload.code 0)

/-- PUSH_ALL (R165, R175). -/
def execPushAll (s : State) : Result := .next (s.command Command.pushAll.code 0)

/-- DROP_ALL (R167, R175). -/
def execDropAll (s : State) : Result := .next (s.command Command.dropAll.code 0)

/-- CANCEL, with the argument byte of the word written (R52, R53, R175). -/
def execCancel (ticket : BitVec 8) (s : State) : Result := .next (s.command Command.cancel.code ticket.toNat)

/-- RADIO_RESTART (R143, R175). -/
def execRadioRestart (s : State) : Result := .next (s.command Command.radioRestart.code 0)

/-- UNDEFINED_COMMAND: a CONTROL write with another code (R174). -/
def execUndefinedCommand (code : BitVec 4) (s : State) : Result := .next (s.command code 0)

/-! ## Register writes (R172) -/

/-- NUDGE: a write of any value (R35). -/
def execNudge (_value : Word) (s : State) : Result := .next s.nudged

/-- ATTENTION_WRITE (R176). -/
def execAttentionWrite (value : Word) (s : State) : Result := .next (s.clearAttention value)

/-- ATTN_ENABLE_WRITE (R177). -/
def execAttnEnableWrite (value : Word) (s : State) : Result := .next (s.setEnables value)

/-- STORE_TIME_WRITE (R20). -/
def execStoreTimeWrite (value : Word) (s : State) : Result := .next (s.setStoreTime value)

/-- OTHER_REGISTER_WRITE: a write of IDENT is ignored (R172). -/
def execOtherRegisterWrite (value : Word) (s : State) : Result := .next (s.writeRegister 0 value)

end Sys2Proof.Machine
end

