-- ==== Sys2Proof/Machine/AirEvents.lean ====
section
/-! DEFINITION. The meanings of the Timebase's events and of the events of the air. An event that is not due in the state
changes nothing (log 11). -/

namespace Sys2Proof.Machine

/-- SECOND_TICK (R18). -/
def execSecondTick (s : State) : Result := .next s.tickSecond

/-- TICKET_EXPIRY of the ticket in a slot (R51). -/
def execTicketExpiry (slot : BitVec 5) (s : State) : Result := .next (s.takeExpiry slot.toNat)

/-- CYCLE_START, after the end of slot 63 (R22). -/
def execCycleStart (s : State) : Result :=
  .next (if s.cycleStartDue then s.nextPeriod State.startCycle else s)

/-- BEACON_SENSE (R130). -/
def execBeaconSense (busy : Bool) (s : State) : Result := .next (s.senseBeacon busy)

/-- SLOT_START, after the beacon period or after the end of a slot below 63 (R22). -/
def execSlotStart (s : State) : Result :=
  .next
    (match s.time.nextSlot with
     | none => s
     | some k => s.nextPeriod fun s => s.startSlot k)

/-- SLOT_SENSE (R133). -/
def execSlotSense (busy : Bool) (s : State) : Result := .next (s.senseSlot busy)

/-- TURN_START (R136). -/
def execTurnStart (turn : BitVec 3) (s : State) : Result := .next (s.startTurn turn.toNat)

/-- FRAME_SENT: the transmitter is unkeyed at the frame's last bit (R129). -/
def execFrameSent (s : State) : Result := .next s.unkey

/-- REPLY_WINDOW_OPEN (R136). -/
def execReplyWindowOpen (s : State) : Result := .next s.openWindow

/-- REPLY_RECEIVED (R138). -/
def execReplyReceived (frame : List Byte) (s : State) : Result := .next (s.receiveFrame frame)

/-- REPLY_WINDOW_CLOSE (R137). -/
def execReplyWindowClose (s : State) : Result := .next s.closeWindow

/-- SLOT_END (R140). -/
def execSlotEnd (s : State) : Result :=
  .next
    (match s.time.openSlot with
     | none => s
     | some k => s.endSlot k)

/-- KEY_MONITOR_TRIP (R142). -/
def execKeyMonitorTrip (s : State) : Result := .next s.tripKeyMonitor

end Sys2Proof.Machine
end

