-- ==== Sys2Proof/Machine/WorkEvents.lean ====
section
/-! DEFINITION. The meanings of the events of the Ticket Unit, the Chain Walker, the Directory Cache and the Loader. An
event that is not due in the state changes nothing (log 11). -/

namespace Sys2Proof.Machine

/-- SWEEP_TIMER_EXPIRY, while the timer runs (R35). -/
def execSweepTimerExpiry (s : State) : Result :=
  .next (if s.unit.sweepTimer.isSome && s.sweepsStart then s.askSweep else s)

/-- SWEEP: the sweep in progress reads its 32 words and ends (R35). -/
def execSweep (s : State) : Result := .next (if s.unit.sweepActive then s.sweepBoard.endSweep else s)

/-- CARD_READ (R62). -/
def execCardRead (s : State) : Result := .next s.stepCard

/-- SPAN_ITERATION (R78). -/
def execSpanIteration (s : State) : Result := .next s.stepIteration

/-- ROOM_STALL_RETRY (R71). -/
def execRoomStallRetry (s : State) : Result := .next s.retryRoom

/-- TURN_STALL_RETRY (R72). -/
def execTurnStallRetry (s : State) : Result := .next s.retryTurn

/-- PORT_GRANT (R150). -/
def execPortGrant (s : State) : Result := .next s.grantPort

/-- FILL_INSTALL (R153). -/
def execFillInstall (s : State) : Result := .next s.installFill

/-- FILL_ABANDON (R155). -/
def execFillAbandon (s : State) : Result := .next s.abandonFill

/-- LOAD_CHECK (R181). -/
def execLoadCheck (s : State) : Result := .next (if s.loadCheckDue then s.checkLoad else s)

end Sys2Proof.Machine
end

