-- ==== Sys2Proof/Machine/Dispatch.lean ====
section
/-! DEFINITION. Which meaning each command has. -/

namespace Sys2Proof.Machine

/-- The effect of a command on everything but the queue. -/
def exec (i : Instr) (s : State) : Host.Outcome State Fault Refusal :=
  match i with
  | .powerOnReset => Sys2Proof.Machine.execPowerOnReset s
  | .hostRead addr => Sys2Proof.Machine.execHostRead addr s
  | .hostWrite addr data => Sys2Proof.Machine.execHostWrite addr data s
  | .snoopRead addr => Sys2Proof.Machine.execSnoopRead addr s
  | .snoopWrite addr data => Sys2Proof.Machine.execSnoopWrite addr data s
  | .run => Sys2Proof.Machine.execRun s
  | .halt => Sys2Proof.Machine.execHalt s
  | .reload => Sys2Proof.Machine.execReload s
  | .pushAll => Sys2Proof.Machine.execPushAll s
  | .dropAll => Sys2Proof.Machine.execDropAll s
  | .cancel ticket => Sys2Proof.Machine.execCancel ticket s
  | .radioRestart => Sys2Proof.Machine.execRadioRestart s
  | .undefinedCommand code => Sys2Proof.Machine.execUndefinedCommand code s
  | .nudge value => Sys2Proof.Machine.execNudge value s
  | .attentionWrite value => Sys2Proof.Machine.execAttentionWrite value s
  | .attnEnableWrite value => Sys2Proof.Machine.execAttnEnableWrite value s
  | .storeTimeWrite value => Sys2Proof.Machine.execStoreTimeWrite value s
  | .otherRegisterWrite value => Sys2Proof.Machine.execOtherRegisterWrite value s
  | .secondTick => Sys2Proof.Machine.execSecondTick s
  | .ticketExpiry slot => Sys2Proof.Machine.execTicketExpiry slot s
  | .cycleStart => Sys2Proof.Machine.execCycleStart s
  | .beaconSense busy => Sys2Proof.Machine.execBeaconSense busy s
  | .slotStart => Sys2Proof.Machine.execSlotStart s
  | .slotSense busy => Sys2Proof.Machine.execSlotSense busy s
  | .turnStart turn => Sys2Proof.Machine.execTurnStart turn s
  | .frameSent => Sys2Proof.Machine.execFrameSent s
  | .replyWindowOpen => Sys2Proof.Machine.execReplyWindowOpen s
  | .replyReceived frame => Sys2Proof.Machine.execReplyReceived frame s
  | .replyWindowClose => Sys2Proof.Machine.execReplyWindowClose s
  | .slotEnd => Sys2Proof.Machine.execSlotEnd s
  | .keyMonitorTrip => Sys2Proof.Machine.execKeyMonitorTrip s
  | .sweepTimerExpiry => Sys2Proof.Machine.execSweepTimerExpiry s
  | .sweep => Sys2Proof.Machine.execSweep s
  | .cardRead => Sys2Proof.Machine.execCardRead s
  | .spanIteration => Sys2Proof.Machine.execSpanIteration s
  | .roomStallRetry => Sys2Proof.Machine.execRoomStallRetry s
  | .turnStallRetry => Sys2Proof.Machine.execTurnStallRetry s
  | .portGrant => Sys2Proof.Machine.execPortGrant s
  | .fillInstall => Sys2Proof.Machine.execFillInstall s
  | .fillAbandon => Sys2Proof.Machine.execFillAbandon s
  | .loadCheck => Sys2Proof.Machine.execLoadCheck s

end Sys2Proof.Machine
end

