-- ==== Sys2Proof/Machine/Label.lean ====
section
/-! DEFINITION. What the part relies on in a label (R30, R144 to R147). Labels are not the part: no label stands in `State`,
and the part sees of one only the frames it sends. These functions say how a label that hears a frame changes and
answers. -/

namespace Sys2Proof.Machine

/-- An image a label holds: its version, the content that came with it, and, while staged, its activation time. -/
structure LabelImage where
  version : BitVec 16
  content : List Byte
  activation : Word
  deriving DecidableEq, Repr

/-- A label, hung at a directory index. -/
structure Label where
  ident : BitVec 24
  slot : Nat
  phase : Nat
  exponent : Nat
  displayed : LabelImage
  staged : Option LabelImage
  /-- store time of the last beacon heard; none since it restarted -/
  lastBeacon : Option Word
  battery : BitVec 4
  rushing : Bool
  deriving DecidableEq, Repr

/-- The label listens in a cycle (R144). -/
def Label.listens (l : Label) (cycle : BitVec 16) : Bool := l.rushing || cycle.toNat % 2 ^ l.exponent == l.phase

/-- A beacon heard: rushing mode, the switch to a staged image whose non-zero activation time has come, and the last
beacon store time (R144, R147). -/
def Label.hearBeacon (l : Label) (now : Word) (rush : Bool) (floor : BitVec 4) : Label :=
  let l := { l with rushing := rush && decide (floor.toNat ≤ l.battery.toNat), lastBeacon := some now }
  match l.staged with
  | none => l
  | some im =>
    if im.activation ≠ 0#32 ∧ im.activation.toNat ≤ now.toNat then { l with displayed := im, staged := none } else l

/-- A restart, for instance after a battery change (R144). -/
def Label.restart (l : Label) : Label := { l with staged := none, lastBeacon := none, rushing := false }

/-- The label displays a version not older than the one offered (R145, R146). -/
def Label.notOlder (l : Label) (v : BitVec 16) : Bool := !newerVersion v l.displayed.version

/-- A reply of the label, with the link quality it measured. -/
def Label.reply (l : Label) (result : ReplyResult) (staged : Option (BitVec 16)) (quality : BitVec 8) : Reply :=
  { result := result, displayed := l.displayed.version, staged := staged, battery := l.battery, rushing := l.rushing,
    quality := quality }

/-- The image is displayed at once: activation time 0, or at most the last beacon store time (R145). -/
def Label.showsAtOnce (l : Label) (activation : Word) : Bool :=
  activation == 0#32 || l.lastBeacon.any fun b => decide (activation.toNat ≤ b.toNat)

/-- An UPDATE heard (R145). A SHOWN or REJECTED reply names no staged version, whatever the label still holds (log 48). -/
def Label.hearUpdate (l : Label) (im : LabelImage) (quality : BitVec 8) : Label × Reply :=
  if l.displayed.version = im.version then (l, l.reply .shown none quality)
  else if l.notOlder im.version then (l, l.reply .rejected none quality)
  else if l.showsAtOnce im.activation then
    let l := { l with displayed := im, staged := none }
    (l, l.reply .shown none quality)
  else
    let l := { l with staged := some im }
    (l, l.reply .staged (some im.version) quality)

/-- A PROBE heard (R146); the staged version is named in a STAGED reply alone (log 48). -/
def Label.hearProbe (l : Label) (v : BitVec 16) (quality : BitVec 8) : Label × Reply :=
  if l.displayed.version = v then (l, l.reply .shown none quality)
  else if l.notOlder v then (l, l.reply .rejected none quality)
  else (l, l.reply .staged (l.staged.map (·.version)) quality)

/-- A WITHDRAW heard (R146); no reply to it names a staged version (log 48). -/
def Label.hearWithdraw (l : Label) (v : BitVec 16) (quality : BitVec 8) : Label × Reply :=
  if l.displayed.version = v then (l, l.reply .shown none quality)
  else if l.notOlder v then (l, l.reply .rejected none quality)
  else if l.staged.any fun im => im.version == v then ({ l with staged := none }, l.reply .withdrawn none quality)
  else (l, l.reply .withdrawn none quality)

def ReplyResult.code : ReplyResult → Byte
  | .staged => 1 | .shown => 2 | .rejected => 3 | .withdrawn => 4

/-- The flags byte of a REPLY. -/
def Reply.flags (r : Reply) : Byte :=
  (r.battery ++ 0#2 ++ BitVec.ofBool r.rushing ++ BitVec.ofBool r.staged.isSome : BitVec 8)

/-- The REPLY frame that a label of a cell sends (R129, R138). -/
def replyFrame (cell : BitVec 16) (ident : BitVec 24) (r : Reply) : List Byte :=
  frameOf cell kindReply
    (bytesOf24 ident ++ [r.result.code] ++ bytesOf16 r.displayed ++ bytesOf16 (r.staged.getD 0#16)
      ++ [r.flags, r.quality])

end Sys2Proof.Machine
end

