-- ==== Sys2Proof/Safety.lean ====
section
/-! DEFINITION. The conditions of a state that the rules promise in every state of the part, in the terms that claims use. -/

namespace Sys2Proof.Machine

/-- The schedule runs in RUNNING alone, the radio is ACTIVE in RUNNING alone, the Loader works in LOADING alone, and the
restart mark is set in FAULT alone (R24, R127, R143, R178). -/
def State.scheduleFollows (s : State) : Bool :=
  ((s.time.position == .stopped) == (s.host.runState != .running))
    && (s.air.radio != .active || s.host.runState == .running)
    && ((s.loader == .idle) == (s.host.runState != .loading))
    && (!s.air.restartMark || s.air.radio == .fault)

/-- A part that is HALTED or RUNNING is loaded (R178). -/
def State.loadHeld (s : State) : Bool :=
  !(s.host.runState == .halted || s.host.runState == .running) || s.load.isSome

/-- No directory index has more than one roster entry, and the decision held apart from the map names an index that has
none (R107, R108). -/
def State.oneEntryEach (s : State) : Bool :=
  decide (s.roster.entries.map (·.index)).Nodup
    && s.roster.newEntry.all fun n => s.roster.entries.all fun e => e.index != n.index

end Sys2Proof.Machine
end

