-- ==== Sys2Proof/Certificates/Slice0/Obligations.lean ====
section
/-! DEFINITION. The statements for the provers. Where a statement gives a next state as `{ s with … }`, every field it does
not name is unchanged: that is its frame. -/

open Sys2Proof Sys2Proof.Machine

/-! ## Codes that several statements share (09_host_link_registers_and_start_up.md, 10_memory_layouts.md) -/

/-- CONTROL bits 0 to 2. -/
def Sys2Proof.Machine.RunState.number : RunState → BitVec 3
  | .unloaded => 0 | .loading => 1 | .halted => 2 | .running => 3 | .loadFault => 4

/-- CONTROL bits 8 to 10. -/
def Sys2Proof.Machine.CommandResult.number : CommandResult → BitVec 3
  | .none => 0 | .done => 1 | .wrongState => 2 | .noTime => 3 | .notHeld => 4 | .badArgument => 5

/-- CONTROL bits 12 to 15. -/
def Sys2Proof.Machine.LoadFaultCode.number : LoadFaultCode → BitVec 4
  | .none => 0 | .badSignature => 1 | .badLayout => 2 | .badRange => 3 | .overlap => 4 | .badChannel => 5 | .memory => 6

/-- The handoff word of a held ticket. -/
def Sys2Proof.Machine.ContextState.word : ContextState → Word
  | .queued => 1 | .walking => 2 | .parked => 3 | .delivering => 4

/-- Bits 0 to 7 of a ticket's outcome word. -/
def Sys2Proof.Machine.TicketOutcome.number : TicketOutcome → BitVec 8
  | .complete => 1 | .abridged => 2 | .cancelled => 3 | .expired => 4 | .interrupted => 5 | .malformed => 6

/-- Bits 8 to 15 of a ticket's outcome word. -/
def Sys2Proof.Machine.Reason.number : Reason → BitVec 8
  | .none => 0 | .runaway => 1 | .badLink => 2 | .memory => 3 | .depth => 4 | .badClass => 5 | .badChain => 6
  | .badLimit => 7 | .badList => 8 | .badTimes => 9

/-- Bits 16 to 23 of the first word of an exception entry. -/
def Sys2Proof.Machine.ExceptionKind.number : ExceptionKind → BitVec 8
  | .badKind => 1 | .badTarget => 2 | .badOperand => 3 | .badBase => 4 | .noSpan => 5 | .nestedSpan => 6
  | .memoryFault => 7 | .clamped => 8 | .missed => 9 | .unconfirmed => 10 | .noReply => 11 | .rejected => 12
  | .superseded => 13 | .cancelled => 14 | .alreadyShown => 15 | .withdrawFailed => 16

/-- Bits 24 to 27 of the word at record offset 40. -/
def Sys2Proof.Machine.DeliveryState.number : DeliveryState → BitVec 4
  | .pending => 1 | .staged => 2 | .confirmed => 3 | .missed => 4 | .unconfirmed => 5 | .noReply => 6 | .rejected => 7
  | .cancelled => 8 | .alreadyShown => 9

/-- Bits 0 to 7 of a card. -/
def Sys2Proof.Machine.CardKind.number : CardKind → Nat
  | .price => 1 | .adjustPercent => 2 | .adjustAmount => 3 | .badge => 4 | .span => 5 | .include => 6 | .mark => 7
  | .chainEnd => 8

/-! ## Tallies, reports and settlements that several statements share -/

/-- A count of a held ticket, by its place among the seventeen (10_memory_layouts.md, "Ticket Record"). -/
def Sys2Proof.Machine.Ticket.count (k : Ticket) (place : Nat) : Word := k.tallies.getD place 0#32

/-- The live entry count: entered less the nine delivery tallies that close an entry (R47). -/
def Sys2Proof.Machine.Ticket.liveEntries (k : Ticket) : Word :=
  k.count 7 - (k.count 8 + k.count 9 + k.count 10 + k.count 11 + k.count 12 + k.count 13 + k.count 14 + k.count 15 + k.count 16)

/-- One more in a tally of the ticket in slot n, on chip and in its field (R46). -/
def Sys2Proof.Machine.State.tallied (s : State) (n place : Nat) : State :=
  match s.ticket n with
  | none => s
  | some k =>
    { s with
      ram := s.ram.setWord (s.ticketOffset n (24 + 4 * place)) (k.count place + 1#32)
      unit := { s.unit with
        tickets := assocPut n { k with tallies := k.tallies.set place (k.count place + 1#32) } s.unit.tickets } }

/-- The ticket of slot n is settled: tallies, counts, outcome and stop card on the board, then SETTLED; its context is not
held (R50). -/
def Sys2Proof.Machine.State.settles (s t : State) (n : Nat) (k : Ticket) (o : TicketOutcome) (r : Reason)
    (stop : Option Nat) : Prop :=
  t.ticket n = none ∧ (∀ m, m ≠ n → t.ticket m = s.ticket m)
    ∧ (∀ j, j < 17 → t.ticketWord n (24 + 4 * j) = k.count j) ∧ t.ticketWord n 8 = (k.overflow ++ k.entriesWritten : BitVec 32)
    ∧ t.ticketWord n 12 = (0#16 ++ r.number ++ o.number : BitVec 32)
    ∧ t.ticketWord n 20 =
        (if o = .abridged then (match stop with | none => 0xFFFFFFFF#32 | some c => BitVec.ofNat 32 c) else 0xFFFFFFFF#32)
    ∧ t.ticketWord n 0 = 5#32 ∧ t.ticketWord n 4 = s.ticketWord n 4 ∧ t.ticketWord n 16 = s.ticketWord n 16
    ∧ ∀ x, x < s.ticketOffset n 0 ∨ s.ticketOffset n 92 ≤ x → t.ram.byte x = s.ram.byte x

/-- A delivery has been reported to the ticket of slot n: exception entry, then tally, then the settlement of a DELIVERING
ticket that has no live entry left (R46, R47, R50). -/
def Sys2Proof.Machine.State.reports (s t : State) (n place : Nat) (about : Option ExceptionEntry) : Prop :=
  let u := (match about with | none => s | some e => s.writeException n e).tallied n place
  (∀ k, s.ticket n = some k → k.tallies.length = 17) →
    ((∀ k, u.ticket n = some k → k.state = .delivering → k.liveEntries ≠ 0#32) → t = u)
      ∧ ∀ k, u.ticket n = some k → k.state = .delivering → k.liveEntries = 0#32 → n < 32 → rising s.unit.tickets = true →
        s.ram.wf = true → s.boardBase % 4096 = 0 →
        u.settles t n k (k.outcome.getD .complete) k.reason k.stopCard
          ∧ t = { u with
              ram := t.ram
              unit := { u.unit with tickets := t.unit.tickets }
              host := { s.host with attention := s.host.attention ||| 0x004#9 } }

/-- A command has given DONE (R173). -/
def Sys2Proof.Machine.HostLink.commandDone (h : HostLink) : HostLink := { h with active := none, lastResult := .done }

/-- CANCEL of slot n, when it is in progress, gives DONE once no walk of that slot is in progress and no removal of an entry
that it waits for (R52, R124; that it waits for the removals under way when the Roster took it is log 32). -/
def Sys2Proof.Machine.State.endsCancel (s : State) : State :=
  match s.host.active with
  | some (.cancel n) =>
    if s.walk.any (fun w => w.slot == n) || s.roster.entries.any (fun e => e.owner == n && e.cancelWaits) then s
    else { s with host := s.host.commandDone }
  | _ => s

/-! ## Roster entries, their removals and deferred actions, as several statements use them -/

/-- The list of a slot from its head: URGENT entries, then OVERNIGHT ones, each class in join order (R106). -/
def Sys2Proof.Machine.Roster.inListOrder (r : Roster) (slot : Nat) : List Entry :=
  (r.entries.filter fun e => e.slot == slot && e.cls == .urgent)
    ++ r.entries.filter fun e => e.slot == slot && e.cls == .overnight

/-- The entries of a ticket, from slot 0 to slot 63 and each list from its head (R123, R124). -/
def Sys2Proof.Machine.Roster.ownedBy (r : Roster) (n : Nat) : List Entry :=
  (List.range 64).flatMap fun slot => (r.inListOrder slot).filter fun e => e.owner == n

/-- The Roster's delivery-state write of an entry: four bits of the word at record offset 40 (R9, R188). -/
def Sys2Proof.Machine.deliveryWrite (index : Nat) (d : BitVec 4) : Request :=
  { index := index, op := .update [(10, 0x0F000000#32, (0#4 ++ d ++ 0#24 : BitVec 32))], purpose := .deliveryState }

/-- The delivery state that a removal writes (R122). -/
def Sys2Proof.Machine.Closing.shows : Closing → BitVec 4
  | .confirmed => 3 | .missed => 4 | .unconfirmed _ => 5 | .noReply _ => 6 | .rejected _ => 7 | .cancelled => 8
  | .alreadyShown => 9

/-- The kind and detail of the exception entry of a removal (R48, R122). -/
def Sys2Proof.Machine.Closing.reports (c : Closing) (version : BitVec 16) : Option (ExceptionKind × Word) :=
  match c with
  | .confirmed => none
  | .rejected shown => some (.rejected, (0#16 ++ shown : BitVec 32))
  | .noReply attempts => some (.noReply, BitVec.ofNat 32 attempts)
  | .missed => some (.missed, (0#16 ++ version : BitVec 32))
  | .unconfirmed false => some (.unconfirmed, (0#16 ++ version : BitVec 32))
  | .unconfirmed true => some (.withdrawFailed, (0#16 ++ version : BitVec 32))
  | .cancelled => some (.cancelled, (0#16 ++ version : BitVec 32))
  | .alreadyShown => some (.alreadyShown, (0#16 ++ version : BitVec 32))

/-- The place of the tally of a removal (R47, R122). -/
def Sys2Proof.Machine.Closing.place : Closing → Nat
  | .confirmed => 8 | .unconfirmed _ => 9 | .missed => 10 | .noReply _ => 11 | .rejected _ => 12 | .cancelled => 14
  | .alreadyShown => 15

/-- A walk that waits in a turn stall on one of some indexes has heard that the turn is over (R72, R107). -/
def Sys2Proof.Machine.Walk.hearsTurnEnds (w : Walk) (indexes : List Nat) : Walk :=
  match w.phase with
  | .turnStall app _ => if app.index ∈ indexes then { w with phase := .turnStall app true } else w
  | _ => w

/-- A walk that waits in a room stall has heard of a removal or a change of class (R71, R105). -/
def Sys2Proof.Machine.Walk.hearsRoom (w : Walk) : Walk :=
  match w.phase with
  | .roomStall app _ => { w with phase := .roomStall app true }
  | _ => w

/-- The activation time of an entry has passed, as of the store time of the current cycle (R117, R124). -/
def Sys2Proof.Machine.State.passed (s : State) (e : Entry) : Bool :=
  e.activation == 0#32 || decide (e.activation.toNat ≤ s.time.cycleTime.toNat)

/-- What the expiry of its ticket makes of an entry, and the removal it begins: nothing of one in removal, a deferred action
of one IN_TURN or with an open decision, else a removal by its state (R123, R125). -/
def Sys2Proof.Machine.Entry.takesExpiry (e : Entry) : Entry × Option Closing :=
  let removed := fun c : Closing => (({ e with removing := some c } : Entry), some c)
  if e.removing.isSome then (e, none)
  else if e.turn.isSome || e.decision.isSome then ({ e with deferExpiry := true }, none)
  else
    match e.state with
    | .waitingUpdate => removed .missed
    | .heldStaged => removed (.unconfirmed false)
    | .waitingProbe => removed (.unconfirmed false)
    | .waitingWithdraw => removed (.unconfirmed true)

/-- What the cancellation of its ticket makes of an entry, and the removal it begins (R124, R125). -/
def Sys2Proof.Machine.Entry.takesCancel (e : Entry) (passed : Bool) : Entry × Option Closing :=
  let removed := fun c : Closing => (({ e with removing := some c } : Entry), some c)
  let turned : Entry := { e with state := .waitingWithdraw, attempts := 0 }
  if e.removing.isSome then (e, none)
  else if e.turn.isSome || e.decision.isSome then ({ e with deferCancel := true }, none)
  else
    match e.state with
    | .waitingUpdate => removed .cancelled
    | .heldStaged => (turned, none)
    | .waitingProbe => if passed then removed .alreadyShown else (turned, none)
    | .waitingWithdraw => (e, none)

/-- What its deferred actions make of an entry: the cancellation first, then the expiry of an entry that is not in removal
(R112, R125). -/
def Sys2Proof.Machine.Entry.takesDeferred (e : Entry) (passed : Bool) : Entry × Option Closing :=
  let free : Entry := { e with deferCancel := false, deferExpiry := false }
  let x := if e.deferCancel then free.takesCancel passed else (free, none)
  if e.deferExpiry && x.2.isNone then x.1.takesExpiry else x

/-- Some entries, in the order listed, take an action: each becomes what the action makes of it, at its place in the roster,
and each removal that begins asks for its delivery-state write, in that order (R122, R123, R124). -/
def Sys2Proof.Machine.State.entriesTake (s : State) (which : List Entry) (f : Entry → Entry × Option Closing) : State :=
  { s with
    roster := { s.roster with entries := s.roster.entries.map fun e => if e ∈ which then (f e).1 else e }
    cache := { s.cache with
      deliveryRequests :=
        s.cache.deliveryRequests ++ which.filterMap fun e => (f e).2.map fun c => deliveryWrite e.index c.shows } }

/-- The Roster has taken the expiry of a ticket (R123). -/
def Sys2Proof.Machine.State.expiresEntries (s : State) (n : Nat) : State :=
  s.entriesTake (s.roster.ownedBy n) Entry.takesExpiry

/-- The Roster has taken the cancellation of a ticket, and CANCEL waits for the removals its entries are in (R124; log
32). -/
def Sys2Proof.Machine.State.cancelsEntries (s : State) (n : Nat) : State :=
  let t := s.entriesTake (s.roster.ownedBy n) fun e => e.takesCancel (s.passed e)
  { t with roster := { t.roster with
      entries := t.roster.entries.map fun e =>
        if e.owner = n then { e with cancelWaits := e.cancelWaits || e.removing.isSome } else e } }

/-- The turn or the open decision of an entry is over, and left it as given: its deferred actions act, and the walker hears
that the turn is over (R72, R107, R112, R116, R125). -/
def Sys2Proof.Machine.State.entryReturns (s : State) (e left : Entry) : State :=
  { s.entriesTake [e] (fun _ => left.takesDeferred (s.passed left)) with
    walk := s.walk.map fun w => w.hearsTurnEnds [e.index] }

/-- The entries of a slot that are IN_TURN without a result return to the states they left: in list order, which is the model's
choice (log 52), their deferred actions act, and a walker that waits on one of them hears it (R72, R107, R116, R125). -/
def Sys2Proof.Machine.State.slotReturns (s : State) (slot : Nat) : State :=
  let ending := (s.roster.inListOrder slot).filter fun e => e.turn == some .exchanging
  { s.entriesTake ending (fun e => ({ e with turn := none } : Entry).takesDeferred (s.passed e)) with
    walk := s.walk.map fun w => w.hearsTurnEnds (ending.map (·.index)) }

/-- The change of an entry has closed: the report to the owning ticket, then the entry leaves the roster, the walker hears of
it, and a CANCEL in progress may give DONE (R52, R105, R107, R122). -/
def Sys2Proof.Machine.State.closesEntry (s t : State) (e : Entry) (c : Closing) : Prop :=
  ∃ v : State,
    s.reports v e.owner c.place ((c.reports e.version).map fun p => ⟨e.index, e.ident, p.1, none, p.2⟩)
      ∧ t = ({ v with
          roster := { s.roster with entries := s.roster.entries.filter fun x => x.index != e.index }
          walk := s.walk.map fun w => w.hearsRoom.hearsTurnEnds [e.index] } : State).endsCancel

/-! ## Walks: the arbiter, parking, and where a chain goes on, as several statements use them -/

/-- The ticket waits for a walk: QUEUED, or OVERNIGHT and PARKED (R40). -/
def Sys2Proof.Machine.Ticket.waits (k : Ticket) : Prop := k.state = .queued ∨ k.cls = .overnight ∧ k.state = .parked

/-- The ticket of slot n comes before that of slot m: URGENT before OVERNIGHT, then the lower sequence, then the lower slot
(R40). -/
def Sys2Proof.Machine.Ticket.ranksBefore (k : Ticket) (n : Nat) (j : Ticket) (m : Nat) : Prop :=
  k.cls = .urgent ∧ j.cls = .overnight
    ∨ k.cls = j.cls ∧ (k.sequence.toNat < j.sequence.toNat ∨ k.sequence = j.sequence ∧ n < m)

/-- The ticket of slot n waits, and comes before every other that waits (R40). -/
def Sys2Proof.Machine.State.ranksFirst (s : State) (n : Nat) (k : Ticket) : Prop :=
  rising s.unit.tickets = true ∧ s.ticket n = some k ∧ k.waits
    ∧ ∀ m j, m ≠ n → s.ticket m = some j → j.waits → k.ranksBefore n j m

/-- No ticket waits for a walk. -/
def Sys2Proof.Machine.State.noneWaits (s : State) : Prop :=
  rising s.unit.tickets = true ∧ ∀ m j, s.ticket m = some j → ¬ j.waits

/-- The ticket of slot n WALKING with a walk context (R41, R44). -/
def Sys2Proof.Machine.State.takesWalk (s : State) (n : Nat) (k : Ticket) (w : Walk) : State :=
  { s with
    ram := s.ram.setWord (s.ticketOffset n 0) 2#32
    unit := { s.unit with tickets := assocPut n { k with state := .walking } s.unit.tickets }
    walk := some w }

/-- What the end of a walk of the ticket of slot n asks of a state: the ticket is held, the board lies on whole bytes of RAM
in canonical form, and, when a cancellation or an expiry waits for the walk's end, the roster keeps one entry an index. -/
structure Sys2Proof.Machine.State.WalkMayEnd (s : State) (n : Nat) (k : Ticket) : Prop where
  held : rising s.unit.tickets = true ∧ s.ticket n = some k
  board : s.boardBase % 4096 = 0 ∧ n < 32
  canonical : s.ram.wf = true
  entries : k.cancelled = true ∨ k.expired = true → s.oneEntryEach = true

/-- The walk of the ticket of slot n, which the walker no longer holds, has ended: its tallies stand on the board; with live
entries left it is DELIVERING with its provisional outcome, and a cancellation and an expiry that waited for the end pass
to the Roster in that order; with none it is settled. A CANCEL in progress may give DONE (R45, R50, R51, R52, R83). -/
def Sys2Proof.Machine.State.endsWalk (s t : State) (n : Nat) (k : Ticket) (o : TicketOutcome) (r : Reason)
    (stop : Option Nat) (causes : BitVec 9) : Prop :=
  ∃ b : State,
    b = { s with
        ram := b.ram
        unit := { s.unit with tickets := b.unit.tickets }
        host := { s.host with attention := b.host.attention } }
      ∧ (k.liveEntries ≠ 0#32 →
        b.unit.tickets =
            assocPut n { k with state := .delivering, outcome := some o, reason := r, stopCard := stop } s.unit.tickets
          ∧ b.host.attention = s.host.attention ||| causes
          ∧ (∀ j, j < 17 → b.ticketWord n (24 + 4 * j) = k.count j) ∧ b.ticketWord n 0 = 4#32
          ∧ (∀ off ∈ [4, 8, 12, 16, 20], b.ticketWord n off = s.ticketWord n off)
          ∧ (∀ x, x < s.ticketOffset n 0 ∨ s.ticketOffset n 92 ≤ x → b.ram.byte x = s.ram.byte x)
          ∧ (let c := if k.cancelled then b.cancelsEntries n else b
            t = (if k.expired then c.expiresEntries n else c).endsCancel))
      ∧ (k.liveEntries = 0#32 →
        s.settles b n k o r stop ∧ b.host.attention = s.host.attention ||| causes ||| 0x004#9 ∧ t = b.endsCancel)

/-- What the arbiter makes of a state. While a walk is in progress, the part is not RUNNING, HALT has been taken (log 21), or
no ticket waits, nothing. Else the ticket that ranks first: a QUEUED one starts at its first link, a PARKED one resumes
from the eight words of its resume area. A NULL first link ends the walk COMPLETE, and a parity fault in the resume area
ends it ABRIDGED MEMORY (R40, R41, R44, R54, R81). -/
def Sys2Proof.Machine.State.arbitrates (s t : State) : Prop :=
  (s.walk.isSome = true ∨ s.host.runState ≠ .running ∨ s.host.active = some .halt ∨ s.noneWaits → t = s)
    ∧ ∀ n k, s.walk = none → s.host.runState = .running → s.host.active ≠ some .halt → s.ranksFirst n k →
      let area := fun j => s.ticketOffset n (96 + 4 * j)
      let readable := ∀ j, j < 8 → s.ram.faulty (area j) = false
      (k.state = .queued → k.firstLink ≠ .null →
          t = s.takesWalk n k
            { slot := n, link := k.firstLink, next := .nextCard, stack := [], span := none, parkRequest := false,
              endRequest := none, fresh := true, body := false, phase := .ready })
        ∧ (k.state = .parked → readable →
          t = s.takesWalk n k (walkOfResume n ((List.range 8).map fun j => s.ram.word (area j))))
        ∧ (s.WalkMayEnd n k → (∀ m j, m ≠ n → s.ticket m = some j → ¬ j.waits) →
          (k.state = .queued → k.firstLink = .null → s.endsWalk t n k .complete .none none 0#9)
            ∧ (k.state = .parked → ¬ readable → s.endsWalk t n k .abridged .memory none 0x010#9))

/-- A walk parked, which leaves the walker free: the eight words of its context over offsets 96 to 127, the tallies, PARKED
(R43, R187). -/
def Sys2Proof.Machine.State.parksWalk (s : State) (w : Walk) (k : Ticket) : State :=
  let put := fun (m : Ram) (off : Nat) (v : Word) => m.setWord (s.ticketOffset w.slot off) v
  let saved := (List.range 8).foldl (fun m j => put m (96 + 4 * j) (w.resumeWords.getD j 0#32)) s.ram
  let tallied := (List.range 17).foldl (fun m j => put m (24 + 4 * j) (k.count j)) saved
  { s with
    ram := put tallied 0 3#32
    unit := { s.unit with tickets := assocPut w.slot { k with state := .parked } s.unit.tickets }
    walk := none }

/-- The walk ends with an outcome, and the arbiter chooses (R40, R45, R83). -/
def Sys2Proof.Machine.State.walkStops (s t : State) (w : Walk) (o : TicketOutcome) (r : Reason) (stop : Option Nat)
    (causes : BitVec 9) : Prop :=
  ∀ k, s.WalkMayEnd w.slot k →
    ∃ v, ({ s with walk := none } : State).endsWalk v w.slot k o r stop causes ∧ v.arbitrates t

/-- The walk ends by itself at a card; an end request that is held decides the outcome (R63, R82; log 17). -/
def Sys2Proof.Machine.State.walkStopsAtCard (s t : State) (w : Walk) (o : TicketOutcome) (r : Reason) (stop : Option Nat)
    (causes : BitVec 9) : Prop :=
  match w.endRequest with
  | some e => s.walkStops t w e .none none causes
  | none => s.walkStops t w o r stop causes

/-- An URGENT ticket is QUEUED (R42). -/
def Sys2Proof.Machine.State.urgentWaits (s : State) : Prop :=
  ∃ m k, s.ticket m = some k ∧ k.cls = .urgent ∧ k.state = .queued

/-- The walk goes on, with no card in progress, at a link. -/
def Sys2Proof.Machine.Walk.goesOnAt (w : Walk) (l : Link) : Walk :=
  { w with link := l, next := .nextCard, fresh := false, body := false, phase := .ready }

/-- The level ends with no span active: return links are popped until one is not NULL; with none left the walk ends (R75; that
this is done when the card completes is log 19). -/
def Sys2Proof.Machine.Walk.popsTo (w : Walk) : List Link → Option Walk
  | [] => none
  | top :: rest => if top = .null then w.popsTo rest else some { w.goesOnAt top with stack := rest, span := none }

/-- The span ends: the frame is removed, and the walk goes on at the exit link, or where a NULL one pops to (R75, R80; an exit
link that no read has recorded is a free value, log 7). -/
def Sys2Proof.Machine.Walk.leavesSpan (w : Walk) (f : SpanFrame) (stack : List Link) : Option Walk :=
  if f.exitLink = .null then w.popsTo stack else some { w.goesOnAt f.exitLink with stack := stack, span := none }

/-- An iteration of the span ends: one less remaining, the current index one stride on; the next iteration, or the end of the
span (R80). -/
def Sys2Proof.Machine.Walk.endsIteration (w : Walk) (f : SpanFrame) (stack : List Link) : Option Walk :=
  let g : SpanFrame := { f with remaining := f.remaining - 1, current := f.current + f.stride }
  if f.remaining ≤ 1 then w.leavesSpan g stack
  else some { w.goesOnAt f.body with next := .nextIteration, stack := stack, span := some g }

/-- The level ends with a span active: return links are popped until one is not NULL, and a pop to the span's depth ends the
iteration (R75, R79). -/
def Sys2Proof.Machine.Walk.popsInSpan (w : Walk) (f : SpanFrame) : List Link → Option Walk
  | [] => none
  | top :: rest =>
    if rest.length = f.depth then w.endsIteration f rest
    else if top = .null then w.popsInSpan f rest
    else some { w.goesOnAt top with stack := rest }

/-- The level ends (R75). -/
def Sys2Proof.Machine.Walk.endsLevel (w : Walk) : Option Walk :=
  match w.span with
  | none => w.popsTo w.stack
  | some f => w.popsInSpan f w.stack

/-- Where a walk goes once a card is complete: the iteration of a span's body ends, any other card is followed by its next
link, and a NULL one ends the level (R58, R59, R75, R79). None: the walk ends. -/
def Sys2Proof.Machine.Walk.afterward (w : Walk) (next : Link) : Option Walk :=
  match w.span with
  | some f => if w.body then w.endsIteration f w.stack else if next = .null then w.endsLevel else some (w.goesOnAt next)
  | none => if next = .null then w.endsLevel else some (w.goesOnAt next)

/-- The card boundary of a walk whose next place is given, or which ends by itself: an end request that is held decides, then
the end by itself, then a parking request, which parks the walk when an URGENT ticket is QUEUED and else lapses (R42, R43,
R63). -/
def Sys2Proof.Machine.State.reaches (s t : State) (w : Walk) (place : Option Walk) : Prop :=
  match w.endRequest, place with
  | some o, _ => s.walkStops t w o .none none 0#9
  | none, none => s.walkStops t w .complete .none none 0#9
  | none, some p =>
    (w.parkRequest = false → t = { s with walk := some p })
      ∧ (w.parkRequest = true → rising s.unit.tickets = true →
        (¬ s.urgentWaits → t = { s with walk := some { p with parkRequest := false } })
          ∧ ∀ k, s.urgentWaits → s.ticket w.slot = some k → (s.parksWalk p k).arbitrates t)

/-- The walk at the boundary of a room stall: the stalled card is the current link, and is to be read again (R71). -/
def Sys2Proof.Machine.Walk.stopsInRoom (w : Walk) : Walk :=
  { w with
    link := (match w.span with | some f => if w.body then f.body else w.link | none => w.link)
    next := .repeatCard, fresh := false, phase := .ready }

/-- A room stall: a boundary for requests and for HALT, else the walk waits with its application (R71, R81). -/
def Sys2Proof.Machine.State.stallsForRoom (s t : State) (w : Walk) (app : Application) : Prop :=
  match w.endRequest with
  | some o => s.walkStops t w o .none none 0#9
  | none =>
    rising s.unit.tickets = true →
      (∀ k, w.parkRequest = true → s.urgentWaits → s.ticket w.slot = some k → (s.parksWalk w.stopsInRoom k).arbitrates t)
        ∧ (w.parkRequest = false ∨ ¬ s.urgentWaits →
          (s.host.runState = .running → s.host.active ≠ some .halt →
              t = { s with walk := some { w with parkRequest := false, phase := .roomStall app false } })
            ∧ (s.host.runState ≠ .running ∨ s.host.active = some .halt →
              t = { s with walk := some { w.stopsInRoom with parkRequest := false } }))

/-- A turn stall; an end request that is held ends the walk (R72; log 17). -/
def Sys2Proof.Machine.State.stallsInTurn (s t : State) (w : Walk) (app : Application) : Prop :=
  match w.endRequest with
  | some o => s.walkStops t w o .none none 0#9
  | none => t = { s with walk := some { w with phase := .turnStall app false } }

/-- An application opens with the question of R67: with an entry Q0 and Q2 are asked for, without one Q0, Q1 and Q3; an entry
IN_TURN, in removal or with an open decision stalls it (R67, R72, R107). -/
def Sys2Proof.Machine.State.opens (s t : State) (w : Walk) (c : Card) (number index : Nat) : Prop :=
  let asks := fun fromEntry : Bool =>
    { s with
      walk := some { w with phase := .reading ⟨c, number, index, fromEntry⟩ }
      cache := { s.cache with
        walkerRequest := some ⟨index, .read (if fromEntry then [0, 2] else [0, 1, 3]), .recordRead⟩ } }
  (s.entry index = none → t = asks false)
    ∧ ∀ e, s.entry index = some e →
      (e.turn = none → e.removing = none → e.decision = none → t = asks true)
        ∧ (e.turn.isSome = true ∨ e.removing.isSome = true ∨ e.decision.isSome = true →
          s.stallsInTurn t w ⟨c, number, index, false⟩)

/-- The card is complete after a count in one tally, with an exception entry or none (R46, R48, R64, R69). -/
def Sys2Proof.Machine.State.completesCard (s t : State) (w : Walk) (c : Card) (place : Nat)
    (about : Option ExceptionEntry) : Prop :=
  ((match about with | none => s | some e => s.writeException w.slot e).tallied w.slot place).reaches t w
    (w.afterward (linkOfWord c.w4))

/-- The exception entry of a card: its number, and its kind code as detail (R48). -/
def Sys2Proof.Machine.Card.exception (c : Card) (number : Nat) (why : ExceptionKind) (index : Nat) (ident : BitVec 24) :
    ExceptionEntry :=
  { index := index, ident := ident, kind := why, card := some number,
    detail := BitVec.ofNat 32 (c.w0.extractLsb' 0 8).toNat }

/-- The words of a card lie in the ranges of R65, and its mode and guard codes are defined. -/
def Sys2Proof.Machine.Card.inRange (c : Card) : Prop :=
  let code := (c.w0.extractLsb' 0 8).toNat
  let guard := (c.w0.extractLsb' 10 2).toNat
  (1 ≤ code ∧ code ≤ 4 → (c.w0.extractLsb' 8 2).toNat ≤ 1)
    ∧ (1 ≤ code ∧ code ≤ 3 → guard ≤ 2)
    ∧ (code = 1 → 1 ≤ c.w8.toNat ∧ c.w8.toNat ≤ 9999999
      ∧ (c.w0.getLsbD 12 = true → c.w12 = 0xFFFFFFFF#32 ∨ c.w12.toNat ≤ 9999999))
    ∧ (code = 2 → -10000 ≤ c.w8.toInt ∧ c.w8.toInt ≤ 10000)
    ∧ (code = 3 → -9999999 ≤ c.w8.toInt ∧ c.w8.toInt ≤ 9999999)
    ∧ (code = 2 ∨ code = 3 → (c.w12 = 0xFFFFFFFF#32 ∨ c.w12.toNat ≤ 99) ∧ c.w16.toNat ≤ 9999999)
    ∧ (code = 5 → 1 ≤ c.w12.toNat ∧ c.w12.toNat ≤ 4096 ∧ 1 ≤ c.w16.toNat ∧ c.w16.toNat ≤ 64)

/-- A card that has been read acts, by the checks of R64 in their order and its kind. A refused card writes its exception entry
and the refused tally; a targeting card opens its application, which a held end request abandons unreported instead (R82, log
17); a SPAN creates its frame; an INCLUDE pushes its next link, or is complete at once when its sub-chain is empty; a MARK
reports its tag; an END ends the level, or the iteration when it is the span's body (R58, R64, R65, R66, R69, R74, R75, R76,
R77, R79, R82, R83). -/
def Sys2Proof.Machine.State.actsOnCard (s t : State) (w : Walk) (k : Ticket) (c : Card) (number : Nat) : Prop :=
  let next := linkOfWord c.w4
  let target := linkOfWord c.w8
  let code := (c.w0.extractLsb' 0 8).toNat
  let spanMode := (c.w0.extractLsb' 8 2).toNat = 1
  let named := (c.w0.extractLsb' 16 14).toNat
  let refused := fun (why : ExceptionKind) (index : Nat) =>
    s.completesCard t w c 4 (some (c.exception number why index 0#24))
  let targets := fun index : Nat =>
    match w.endRequest with
    | some o => s.walkStops t w o .none none 0#9
    | none =>
      (s.directorySize ≤ index → refused .badTarget index) ∧ (index < s.directorySize → s.opens t w c number index)
  (code = 0 ∨ 8 < code → refused .badKind named)
    ∧ (code = 5 → w.span.isSome = true → refused .nestedSpan named)
    ∧ (1 ≤ code → code ≤ 8 → (code = 5 → w.span = none) → ¬ c.inRange → refused .badOperand named)
    ∧ (1 ≤ code → code ≤ 4 → c.inRange →
      (spanMode → w.span = none → refused .noSpan named) ∧ (¬ spanMode → targets named)
        ∧ ∀ f, spanMode → w.span = some f → targets f.current)
    ∧ (code = 5 → w.span = none → c.inRange →
      let start := (c.w8.extractLsb' 0 14).toNat
      s.reaches t w
        (some
          { w.goesOnAt next with
            next := .nextIteration
            span :=
              some
                { start := start, remaining := c.w12.toNat, stride := c.w16.toNat, current := start,
                  startDepartment := none, untilDepartment := c.w0.getLsbD 13, body := next, exit := none,
                  depth := w.stack.length } }))
    ∧ (code = 6 →
      (4 ≤ w.stack.length → s.walkStopsAtCard t w .abridged .depth (some number) 0#9)
        ∧ (w.stack.length < 4 →
          (target = .null → s.reaches t w (w.afterward next))
            ∧ (s.resolveLink k.chainBase target = .bad → s.walkStopsAtCard t w .abridged .badLink (some number) 0#9)
            ∧ ∀ m, s.resolveLink k.chainBase target = .card m →
              s.reaches t w (some { w.goesOnAt target with stack := next :: w.stack })))
    ∧ (code = 7 →
      ({ s with
        ram := s.ram.setWord (s.ticketOffset w.slot 16) c.w8
        unit := { s.unit with
          tickets := assocPut w.slot { k with progressMark := c.w8 } s.unit.tickets } } : State).reaches t w
        (w.afterward next))
    ∧ (code = 8 →
      (∀ f, w.span = some f → w.body = true → s.reaches t w (w.endsIteration f w.stack))
        ∧ (w.span = none ∨ w.body = false → s.reaches t w w.endsLevel))

/-! ## The step, reset and idle time -/

/-- A step runs the command at the front of the queue on the state with the queue's rest. The part keeps no such queue: it
is the model's (log 1). -/
def Obligations.StepRunsFrontCommand : Prop :=
  ∀ (c : Instr) (rest : List Instr) (s : State), s.pending = c :: rest → step s = exec c { s with pending := rest }

/-- With no command waiting a millisecond passes, and only the counts of time and the fill's reading move: the sub-second count
once store time is set (R18), the time into a period of 256 or 60 ms (R22), the sweep timer up to the sweep interval (R35) and
the keying measure up to 25 ms (R142). A fill reads its next quarter, rising and wrapping from Q3 to Q0, or nothing when that
quarter meets a fault or all four have arrived (R153). The idle step, and that a count stops where its event is due, are the
model's choice (log 10). -/
def Obligations.IdleStepPassesTime : Prop :=
  ∀ s : State, s.pending = [] →
    ∃ t, step s = .next t ∧ t.pending = [] ∧ t.host = s.host ∧ t.ram = s.ram ∧ t.load = s.load ∧ t.loader = s.loader
      ∧ t.walk = s.walk ∧ t.roster = s.roster ∧ t.unit.tickets = s.unit.tickets ∧ t.unit.sweepActive = s.unit.sweepActive
      ∧ t.unit.sweepPending = s.unit.sweepPending
      ∧ t.time = { s.time with subSecond := t.time.subSecond, periodMs := t.time.periodMs }
      ∧ (s.time.timeSet = false → t.time.subSecond = s.time.subSecond)
      ∧ (s.time.timeSet = true → t.time.subSecond = min 999 (s.time.subSecond + 1))
      ∧ (s.time.position = .stopped → t.time.periodMs = s.time.periodMs)
      ∧ (s.time.position = .beacon → t.time.periodMs = min 256 (s.time.periodMs + 1))
      ∧ (∀ n, s.time.position = .slot n →
        t.time.periodMs = if s.time.periodOver then s.time.periodMs else min 60 (s.time.periodMs + 1))
      ∧ (s.unit.sweepTimer = none → t.unit.sweepTimer = none)
      ∧ (∀ ms l, s.unit.sweepTimer = some ms → s.load = some l → t.unit.sweepTimer = some (min l.sweepInterval (ms + 1)))
      ∧ t.air = { s.air with keyedMs := if s.air.onAir.isSome then min 25 (s.air.keyedMs + 1) else s.air.keyedMs }
      ∧ t.cache = { s.cache with fill := t.cache.fill }
      ∧ (s.cache.fill = none → t.cache.fill = none)
      ∧ ∀ f, s.cache.fill = some f →
        let place := fun m : Nat => s.recordOffset f.index (4 * ((f.first + f.arrived.length) % 4) + m)
        let arrives := f.arrived.length < 4 ∧ ∀ m, m < 4 → s.ram.faulty (place m) = false
        (arrives →
            t.cache.fill =
              some { f with
                arrived := f.arrived ++
                  [[s.ram.word (place 0), s.ram.word (place 1), s.ram.word (place 2), s.ram.word (place 3)]] })
          ∧ (¬ arrives → t.cache.fill = some f)

/-- POWER_ON_RESET brings every block to its power-on values, which these are (R184), and what the registers then read. That
the RAM lists nothing is the model's choice (logs 2 and 3), and the queue is not the part's. -/
def Obligations.PowerOnResetClearsThePart : Prop :=
  (∀ s : State,
    exec .powerOnReset s =
      .next { State.reset with
        pending := s.pending,
        ram := { generation := s.ram.generation + 1, bytes := [], parity := [] } })
  ∧ let s := State.reset
  s.host.runState = .unloaded ∧ s.host.lastCommand = 0#4 ∧ s.host.lastResult = .none ∧ s.host.active = none
    ∧ s.host.loadFault = .none ∧ s.host.attention = 0#9 ∧ s.host.enable = 0#9 ∧ s.attentionOutput = false
    ∧ s.registerWord 0 = 0x41800001#32 ∧ s.registerWord 1 = 0#32 ∧ s.registerWord 5 = 0#32
    ∧ s.time.timeSet = false ∧ s.time.storeTime = 0#32 ∧ s.time.position = .stopped ∧ s.time.nextCycle = 0#16
    ∧ s.time.liveRush = .closed ∧ s.time.cycleRush = .closed
    ∧ s.unit.tickets = [] ∧ s.unit.sweepTimer = none ∧ s.unit.sweepPending = false ∧ s.walk = none
    ∧ s.roster.entries = [] ∧ s.roster.newEntry = none
    ∧ s.air.radio = .off ∧ s.air.restartMark = false ∧ s.air.lostSlots = 0 ∧ s.air.turns = [] ∧ s.air.onAir = none
    ∧ s.cache.lines = [] ∧ s.cache.pushBuffer = none ∧ s.cache.fill = none ∧ s.cache.replacement = 0#2
    ∧ s.cache.airRequests = [] ∧ s.cache.deliveryRequests = [] ∧ s.cache.walkerRequest = none
    ∧ s.pending = []

/-! ## Host accesses -/

/-- A host read through the direct alias, or through the coherent alias outside the directory area, answers the stored word
and latches HOST_PARITY on a parity fault (R171). -/
def Obligations.HostReadAnswersTheStoredWord : Prop :=
  ∀ (s : State) (k : Nat), k < 1048576 → s.host.held = [] →
    let t : State :=
      { s with host :=
          { s.host with
            readData := some (s.ram.word (4 * k))
            attention := if s.ram.faulty (4 * k) then s.host.attention ||| 0x020#9 else s.host.attention } }
    exec (.hostRead (BitVec.ofNat 24 (0x800000 + 4 * k))) s = .next t
      ∧ (s.inDirectory (4 * k) = false → exec (.hostRead (BitVec.ofNat 24 (4 * k))) s = .next t)

/-- A host write through the direct alias, or through the coherent alias outside the directory area, replaces its whole word
with fresh parity and leaves every other byte and parity mark (R171, R186). So does every word write of the part, which
the other statements name. -/
def Obligations.HostWriteReplacesItsWord : Prop :=
  (∀ (m : Ram) (a : Nat) (w : Word), m.wf = true →
    (m.setWord a w).wf = true ∧ (m.setWord a w).word a = w ∧ (m.setWord a w).faulty a = false
      ∧ ∀ x, x / 4 ≠ a / 4 → (m.setWord a w).byte x = m.byte x ∧ (m.setWord a w).faulty x = m.faulty x)
  ∧ ∀ (s : State) (k : Nat) (w : Word), k < 1048576 → s.host.held = [] → s.ram.wf = true →
    ∃ t : State,
      exec (.hostWrite (BitVec.ofNat 24 (0x800000 + 4 * k)) w) s = .next t
        ∧ (s.inDirectory (4 * k) = false → exec (.hostWrite (BitVec.ofNat 24 (4 * k)) w) s = .next t)
        ∧ t = { s with ram := t.ram } ∧ t.ram.word (4 * k) = w ∧ t.ram.faulty (4 * k) = false
        ∧ ∀ x, x / 4 ≠ k → t.ram.byte x = s.ram.byte x ∧ t.ram.faulty x = s.ram.faulty x

/-- What the six registers read, by the codes spelled above (R172, R173, 10_memory_layouts.md); a read of an address that
reaches nothing answers 0, and a write to one is ignored (R170). -/
def Obligations.RegistersReadTheirFields : Prop :=
  (∀ s : State,
    let read := fun w : Word => Host.Outcome.next (φ := Fault) (ρ := Refusal) { s with host := { s.host with readData := some w } }
    exec (.hostRead 0xF00000#24) s = read 0x41800001#32
      ∧ (∃ w : Word, exec (.hostRead 0xF00004#24) s = read w
          ∧ w.extractLsb' 0 3 = s.host.runState.number ∧ w.getLsbD 3 = s.host.active.isSome
          ∧ w.extractLsb' 4 4 = s.host.lastCommand ∧ w.extractLsb' 8 3 = s.host.lastResult.number
          ∧ w.extractLsb' 12 4 = s.host.loadFault.number ∧ w.getLsbD 11 = false ∧ w.extractLsb' 16 16 = 0#16)
      ∧ exec (.hostRead 0xF00008#24) s = read 0#32
      ∧ exec (.hostRead 0xF0000C#24) s = read (0#23 ++ s.host.attention)
      ∧ exec (.hostRead 0xF00010#24) s = read (0#23 ++ s.host.enable)
      ∧ exec (.hostRead 0xF00014#24) s = read (if s.time.timeSet then s.time.storeTime else 0#32))
  ∧ ∀ (s : State) (a : BitVec 24) (w : Word),
    (0x400000 ≤ a.toNat ∧ a.toNat < 0x800000) ∨ (0xC00000 ≤ a.toNat ∧ a.toNat < 0xF00000) ∨ 0xF00018 ≤ a.toNat →
    exec (.hostRead a) s = .next { s with host := { s.host with readData := some 0#32 } }
      ∧ exec (.hostWrite a w) s = .next s

/-- A host write to a register address is the command of that register, and a write of CONTROL the command its code names
(R172, R174). -/
def Obligations.RegisterWritesAreTheirCommands : Prop :=
  ∀ (s : State) (v : Word),
    let code := v.extractLsb' 4 4
    exec (.otherRegisterWrite v) s = .next s
      ∧ exec (.hostWrite 0xF00000#24 v) s = exec (.otherRegisterWrite v) s
      ∧ exec (.hostWrite 0xF00008#24 v) s = exec (.nudge v) s
      ∧ exec (.hostWrite 0xF0000C#24 v) s = exec (.attentionWrite v) s
      ∧ exec (.hostWrite 0xF00010#24 v) s = exec (.attnEnableWrite v) s
      ∧ exec (.hostWrite 0xF00014#24 v) s = exec (.storeTimeWrite v) s
      ∧ (code = 1#4 → exec (.hostWrite 0xF00004#24 v) s = exec .run s)
      ∧ (code = 2#4 → exec (.hostWrite 0xF00004#24 v) s = exec .halt s)
      ∧ (code = 3#4 → exec (.hostWrite 0xF00004#24 v) s = exec .reload s)
      ∧ (code = 4#4 → exec (.hostWrite 0xF00004#24 v) s = exec .pushAll s)
      ∧ (code = 5#4 → exec (.hostWrite 0xF00004#24 v) s = exec .dropAll s)
      ∧ (code = 6#4 → exec (.hostWrite 0xF00004#24 v) s = exec (.cancel (v.extractLsb' 16 8)) s)
      ∧ (code = 7#4 → exec (.hostWrite 0xF00004#24 v) s = exec .radioRestart s)
      ∧ (isUndefinedCode code = true → exec (.hostWrite 0xF00004#24 v) s = exec (.undefinedCommand code) s)

/-! ## The snoop -/

/-- A coherent-alias host read in the directory area, by where the record stands (R161). -/
def Obligations.SnoopReadFollowsItsTable : Prop :=
  ∀ (s : State) (k : Nat), k < 1048576 → s.host.held = [] → s.inDirectory (4 * k) = true → s.snoopWaits (4 * k) = false →
    let index := (4 * k - s.directoryBase) / 64
    let j := (4 * k - s.directoryBase) % 64 / 4
    let addr := BitVec.ofNat 24 (4 * k)
    (∀ key l, s.cache.find index = .dirty key l →
        exec (.snoopRead addr) s = .next { s with host := { s.host with readData := some (l.words.getD j 0#32) } })
      ∧ (∀ l, s.cache.find index = .buffered l →
        exec (.snoopRead addr) s = .next { s with host := { s.host with readData := some (l.words.getD j 0#32) } })
      ∧ ((∃ key, s.cache.find index = .clean key) ∨ s.cache.find index = .notHeld →
        exec (.snoopRead addr) s =
          .next { s with host :=
              { s.host with
                readData := some (s.ram.word (4 * k))
                attention := if s.ram.faulty (4 * k) then s.host.attention ||| 0x020#9 else s.host.attention } })

/-- A coherent-alias host write in the directory area, by where the record stands (R162). -/
def Obligations.SnoopWriteFollowsItsTable : Prop :=
  ∀ (s : State) (k : Nat) (w : Word), k < 1048576 → s.host.held = [] → s.inDirectory (4 * k) = true →
    s.snoopWaits (4 * k) = false →
    let index := (4 * k - s.directoryBase) / 64
    let j := (4 * k - s.directoryBase) % 64 / 4
    let addr := BitVec.ofNat 24 (4 * k)
    let sunk := fun l : Line => { l with words := l.words.set j w, dirty := l.dirty ||| (1#4 <<< (j / 4)) }
    (∀ key, s.cache.find index = .clean key →
        exec (.snoopWrite addr w) s =
          .next { s with ram := s.ram.setWord (4 * k) w, cache := { s.cache with lines := assocDrop key s.cache.lines } })
      ∧ (∀ key l, s.cache.find index = .dirty key l →
        exec (.snoopWrite addr w) s =
          .next { s with cache := { s.cache with lines := assocPut key (sunk l) s.cache.lines } })
      ∧ (∀ l, s.cache.find index = .buffered l →
        exec (.snoopWrite addr w) s = .next { s with cache := { s.cache with pushBuffer := some (sunk l) } })
      ∧ (s.cache.find index = .notHeld →
        exec (.snoopWrite addr w) s = .next { s with ram := s.ram.setWord (4 * k) w })

/-- The Host Link holds a snoop of the record being filled until the fill ends, and one of any record while DROP_ALL waits for
the fill of another (R163, R167; that snoops wait for DROP_ALL is log 31). That it joins behind the accesses already held,
and that every later access of RAM waits behind them through either alias, is the model's order (log 13). -/
def Obligations.SnoopOfTheRecordBeingFilledIsHeld : Prop :=
  (∀ (s : State) (k : Nat) (w : Word) (f : Fill), k < 1048576 → s.inDirectory (4 * k) = true → s.cache.fill = some f →
    f.index = (4 * k - s.directoryBase) / 64 ∨ s.host.active = some .dropAll →
    let addr := BitVec.ofNat 24 (4 * k)
    exec (.snoopRead addr) s = .next { s with host := { s.host with held := s.host.held ++ [.read addr] } }
      ∧ exec (.snoopWrite addr w) s = .next { s with host := { s.host with held := s.host.held ++ [.write addr w] } })
  ∧ ∀ (s : State) (k : Nat) (w : Word), k < 1048576 → s.host.held ≠ [] →
    let waits := fun a : HostAccess => Host.Outcome.next { s with host := { s.host with held := s.host.held ++ [a] } }
    ∀ addr ∈ [BitVec.ofNat 24 (4 * k), BitVec.ofNat 24 (0x800000 + 4 * k)],
      exec (.hostRead addr) s = waits (.read addr) ∧ exec (.hostWrite addr w) s = waits (.write addr w)
        ∧ exec (.snoopRead addr) s = waits (.read addr) ∧ exec (.snoopWrite addr w) s = waits (.write addr w)

/-! ## CONTROL -/

/-- Any of the eight kinds of CONTROL write. -/
def controlWrites (n : BitVec 8) (k : BitVec 4) : List Instr :=
  [.run, .halt, .reload, .pushAll, .dropAll, .cancel n, .radioRestart, .undefinedCommand k]

/-- A CONTROL write by the first row of R174 that applies, up to the refusals: COMMAND_LOST while a command other than RELOAD
is in progress, BAD_ARGUMENT for an undefined code, WRONG_STATE in the run states of R175, BAD_ARGUMENT for a ticket number
above 31, NO_TIME for RUN while store time is unset (R173, R174, R175). That an undefined code is recorded as the last
command is the model's reading (log 25). -/
def Obligations.ControlWritesAreRefusedInOrder : Prop :=
  (∀ (s : State) (n : BitVec 8) (k : BitVec 4),
    (∀ a, s.host.active = some a → a ≠ .reload → ∀ i ∈ controlWrites n k,
        exec i s = .next { s with host := { s.host with attention := s.host.attention ||| 0x100#9 } })
      ∧ (s.host.active = none ∨ s.host.active = some .reload → isUndefinedCode k = true →
        exec (.undefinedCommand k) s =
          .next { s with host := { s.host with lastCommand := k, lastResult := .badArgument } }))
  ∧ ∀ (s : State) (n : BitVec 8), s.host.active = none ∨ s.host.active = some .reload →
    let refused := fun (code : BitVec 4) (r : CommandResult) =>
      Host.Outcome.next (φ := Fault) (ρ := Refusal) { s with host := { s.host with lastCommand := code, lastResult := r } }
    let r := s.host.runState
    (r ≠ .halted → exec .run s = refused 1#4 .wrongState)
      ∧ (r ≠ .running → exec .halt s = refused 2#4 .wrongState)
      ∧ (r ≠ .halted → exec .dropAll s = refused 5#4 .wrongState)
      ∧ (r ≠ .halted → r ≠ .running →
          exec .pushAll s = refused 4#4 .wrongState ∧ exec (.cancel n) s = refused 6#4 .wrongState
            ∧ exec .radioRestart s = refused 7#4 .wrongState)
      ∧ (r = .halted ∨ r = .running → 31 < n.toNat → exec (.cancel n) s = refused 6#4 .badArgument)
      ∧ (r = .halted → s.time.timeSet = false → exec .run s = refused 1#4 .noTime)

/-- RUN taken: RUNNING, DONE at once, the radio ACTIVE from OFF, a cycle start with the next cycle number, and a sweep (R24,
R35, R113, R128, R175). The arbiter acts on that state: a walk stopped by HALT goes on, and with none the ticket that ranks
first starts its walk at its first link or resumes it (R40, R41, R44, R54). That RUN leaves a pending-sweep mark as it
finds it is the model's choice (log 40); what the end of a walk hands a CANCEL is log 32. -/
def Obligations.RunStartsScheduleAndSweep : Prop :=
  ∀ s : State, s.host.active = none → s.host.runState = .halted → s.time.timeSet = true →
    let renewal := s.time.liveRush == .closed || s.time.cycleRush != s.time.liveRush
    ∃ u t : State, exec .run s = .next t ∧ u.arbitrates t
      ∧ u = { s with
          host := { s.host with runState := .running, lastCommand := 1#4, lastResult := .done }
          time := { s.time with
            cycleNumber := s.time.nextCycle
            nextCycle := s.time.nextCycle + 1#16
            cycleTime := s.time.storeTime
            cycleRush := s.time.liveRush
            position := .beacon
            periodOver := false
            periodMs := 0 }
          unit := { s.unit with sweepActive := true, sweepTimer := some 0 }
          roster := { s.roster with
            entries := s.roster.entries.map fun e =>
              { e with
                rushing := if renewal then false else e.rushing
                state :=
                  if e.state = .heldStaged ∧ e.activation.toNat ≤ s.time.storeTime.toNat then .waitingProbe else e.state } }
          air := u.air }
      ∧ (s.air.radio = .off → u.air = { s.air with radio := .active, lostSlots := 0, stage := .beaconSense 0 })
      ∧ (s.air.radio = .fault → s.air.restartMark = true →
        u.air = { s.air with radio := .active, restartMark := false, lostSlots := 0, stage := .beaconSense 0 })
      ∧ (s.air.radio = .fault → s.air.restartMark = false → u.air = { s.air with stage := .idle })

/-- HALT taken: the sweep timer stops, and HALT is in progress to the end of the period (R54, R175). With no walk nothing else
changes; taken between two periods it completes at once, which is the model's reading (log 26). A walk goes on to its next
card boundary while a card is in progress or waits for a turn; at a boundary it stops, or is parked when a parking request
is held and an URGENT ticket is QUEUED, and then no walk starts (R43, R63, R71, R81; logs 21 and 41). A halted walker reads
no card. -/
def Obligations.HaltWaitsForThePeriodsEnd : Prop :=
  (∀ s : State, s.host.active = none → s.host.runState = .running → s.walk = none →
    (s.time.periodOver = false →
        exec .halt s =
          .next { s with
            host := { s.host with lastCommand := 2#4, active := some .halt }
            unit := { s.unit with sweepTimer := none } })
      ∧ (s.time.periodOver = true →
        ∃ t : State, exec .halt s = .next t ∧ t.host.runState = .halted ∧ t.host.lastCommand = 2#4
          ∧ t.host.lastResult = .done ∧ t.host.active = none ∧ t.time.position = .stopped
          ∧ t.time.nextCycle = s.time.nextCycle ∧ t.ram = s.ram ∧ t.roster = s.roster ∧ t.cache = s.cache
          ∧ t.air.radio = (if s.air.radio = .active then .off else s.air.radio)))
  ∧ (∀ (s : State) (w : Walk), s.host.active = none → s.host.runState = .running → s.time.periodOver = false →
    s.walk = some w → w.endRequest = none → rising s.unit.tickets = true →
    let h : State :=
      { s with
        host := { s.host with lastCommand := 2#4, active := some .halt }
        unit := { s.unit with sweepTimer := none } }
    let parks := w.parkRequest = true ∧ ∃ m j, s.ticket m = some j ∧ j.cls = .urgent ∧ j.state = .queued
    ((∃ app r, w.phase = .turnStall app r) ∨ (∃ app, w.phase = .reading app) ∨ (∃ app st, w.phase = .writing app st)
        ∨ (∃ c m, w.phase = .iterating c m) → exec .halt s = .next h)
      ∧ (w.phase = .ready →
        (¬ parks → exec .halt s = .next { h with walk := some { w with parkRequest := false } })
          ∧ ∀ k, parks → s.ticket w.slot = some k → exec .halt s = .next (h.parksWalk w k))
      ∧ ∀ app r, w.phase = .roomStall app r →
        (¬ parks → exec .halt s = .next { h with walk := some { w.stopsInRoom with parkRequest := false } })
          ∧ ∀ k, parks → s.ticket w.slot = some k → exec .halt s = .next (h.parksWalk w.stopsInRoom k))
  ∧ ∀ s : State, s.host.runState ≠ .running ∨ s.host.active = some .halt →
    exec .cardRead s = .next s ∧ exec .spanIteration s = .next s

/-- RELOAD taken: LOADING, with the schedule, radio, tickets, walk and Roster cleared and the cache's requests withdrawn
(R180). The push is begun, and is over at once when nothing is dirty and no fill is in progress (R169). That the dirty lines
are marked while a fill still runs is log 49, that a write which started that fill is not made is log 56, and that the cycle
number and the cycle start's time are 0 is log 8. -/
def Obligations.ReloadClearsTheChip : Prop :=
  ∀ s : State, s.host.active = none ∨ s.host.active = some .reload →
    ∃ t : State, exec .reload s = .next t
      ∧ t.host = { s.host with runState := .loading, lastCommand := 3#4, active := some .reload }
      ∧ t.time =
          { s.time with
            nextCycle := 0#16, position := .stopped, periodOver := false, periodMs := 0, cycleRush := .closed,
            cycleNumber := 0#16, cycleTime := 0#32 }
      ∧ t.air = AirLink.reset ∧ t.unit = TicketUnit.reset ∧ t.walk = none ∧ t.roster = Roster.reset
      ∧ t.ram = s.ram ∧ t.load = s.load ∧ t.pending = s.pending
      ∧ t.cache.airRequests = [] ∧ t.cache.deliveryRequests = [] ∧ t.cache.walkerRequest = none
      ∧ t.cache.airAside = false ∧ t.cache.deliveryAside = false ∧ t.cache.walkerAside = false
      ∧ t.cache.fill = s.cache.fill.map (fun f => { f with request := none })
      ∧ (s.cache.fill.isSome = true ∨ (∃ p ∈ s.cache.lines, p.2.dirty ≠ 0#4) →
          t.loader = .pushing ∧ t.cache.replacement = s.cache.replacement
            ∧ t.cache.lines = s.cache.lines.map fun p => (p.1, if p.2.dirty ≠ 0#4 then { p.2 with pushPending := true } else p.2))
      ∧ (s.cache.fill = none → s.cache.pushBuffer = none →
          (∀ p ∈ s.cache.lines, p.2.dirty = 0#4 ∧ p.2.pushPending = false) →
          t.loader = .checking ∧ t.cache.lines = [] ∧ t.cache.replacement = 0#2)

/-- PUSH_ALL taken: every DIRTY line, and any buffered record, is marked push-pending; with none of either the command gives
DONE at once (R165). -/
def Obligations.PushAllMarksDirtyLines : Prop :=
  ∀ s : State, s.host.active = none → s.host.runState = .halted ∨ s.host.runState = .running →
    let marked := s.cache.lines.map fun p => (p.1, if p.2.dirty ≠ 0#4 then { p.2 with pushPending := true } else p.2)
    ((∃ p ∈ s.cache.lines, p.2.dirty ≠ 0#4) ∨ s.cache.pushBuffer.isSome = true →
        exec .pushAll s =
          .next { s with
            host := { s.host with lastCommand := 4#4, active := some .pushAll }
            cache :=
              { s.cache with
                lines := marked
                pushBuffer := s.cache.pushBuffer.map fun l => { l with pushPending := true }
                sweeper := some 0 } })
      ∧ ((∀ p ∈ s.cache.lines, p.2.dirty = 0#4 ∧ p.2.pushPending = false) → s.cache.pushBuffer = none →
        exec .pushAll s =
          .next { s with
            host := { s.host with lastCommand := 4#4, lastResult := .done }
            cache := { s.cache with sweeper := none } })

/-- DROP_ALL taken in HALTED: every way INVALID and DONE at once, or in progress while a fill is (R167). -/
def Obligations.DropAllInvalidatesEveryWay : Prop :=
  ∀ s : State, s.host.active = none → s.host.runState = .halted →
    (s.cache.fill = none →
        exec .dropAll s =
          .next { s with
            host := { s.host with lastCommand := 5#4, lastResult := .done }
            cache := { s.cache with lines := [] } })
      ∧ (s.cache.fill.isSome = true →
        exec .dropAll s = .next { s with host := { s.host with lastCommand := 5#4, active := some .dropAll } })

/-- CANCEL of a slot whose ticket is not held: a POSTED one is settled CANCELLED with every tally and count 0, and no byte
outside the part's fields of its record is written; any other word, or a faulty one, gives NOT_HELD (R53). -/
def Obligations.CancelOfASlotNotHeld : Prop :=
  (∀ (s : State) (n : Nat), n < 32 → s.host.active = none → s.host.runState = .halted ∨ s.host.runState = .running →
    s.ticket n = none → s.ticketFaulty n 0 = false → s.ticketWord n 0 = 1#32 → s.boardBase % 4 = 0 → s.ram.wf = true →
    ∃ t : State, exec (.cancel (BitVec.ofNat 8 n)) s = .next t
      ∧ t = { s with
          ram := t.ram
          host := { s.host with lastCommand := 6#4, lastResult := .done, attention := s.host.attention ||| 0x004#9 } }
      ∧ t.ticketWord n 0 = 5#32 ∧ t.ticketWord n 12 = 3#32 ∧ t.ticketWord n 20 = 0xFFFFFFFF#32 ∧ t.ticketWord n 8 = 0#32
      ∧ t.ticketWord n 16 = 0#32 ∧ (∀ k < 17, t.ticketWord n (24 + 4 * k) = 0#32) ∧ t.ticketWord n 4 = s.ticketWord n 4
      ∧ ∀ x, x < s.ticketOffset n 0 ∨ s.ticketOffset n 92 ≤ x → t.ram.byte x = s.ram.byte x)
  ∧ ∀ (s : State) (n : Nat), n < 32 → s.host.active = none → s.host.runState = .halted ∨ s.host.runState = .running →
    s.ticket n = none →
    (s.ticketFaulty n 0 = false → s.ticketWord n 0 ≠ 1#32 →
        exec (.cancel (BitVec.ofNat 8 n)) s =
          .next { s with host := { s.host with lastCommand := 6#4, lastResult := .notHeld } })
      ∧ (s.ticketFaulty n 0 = true →
        exec (.cancel (BitVec.ofNat 8 n)) s =
          .next { s with host :=
              { s.host with
                lastCommand := 6#4, lastResult := .notHeld, attention := s.host.attention ||| 0x010#9 } })

/-- A QUEUED ticket settles at once: CANCELLED by CANCEL, EXPIRED by its expiry; nothing else changes (R50, R51, R52). A
removal ends when its last write has been answered, served or faulted: the write of the delivery state of a removal outside
a turn or of a turn whose result closes the change, the faulted or empty read of Q2 and the faulted write of Q1 of such a
turn. Then the change of the entry is closed (R47, R48, R50, R105, R121, R122; log 32 for a CANCEL in progress). -/
def Obligations.QueuedTicketsSettleAtOnce : Prop :=
  (∀ (s : State) (n : Nat) (k : Ticket), n < 32 → s.ticket n = some k → k.state = .queued → rising s.unit.tickets = true →
    s.ram.wf = true → s.boardBase % 4096 = 0 →
    let settled := fun (answer : Host.Outcome State Fault Refusal) (o : TicketOutcome) (host : HostLink) =>
      ∃ t : State, answer = .next t ∧ s.settles t n k o .none none
        ∧ t = { s with
            ram := t.ram
            unit := { s.unit with tickets := t.unit.tickets }
            host := { host with attention := s.host.attention ||| 0x004#9 } }
    (s.host.active = none → s.host.runState = .halted ∨ s.host.runState = .running →
        settled (exec (.cancel (BitVec.ofNat 8 n)) s) .cancelled { s.host with lastCommand := 6#4, lastResult := .done })
      ∧ (k.expiryDue = true → k.expired = false → settled (exec (.ticketExpiry (BitVec.ofNat 5 n)) s) .expired s.host))
  ∧ ∀ (s : State) (i : Nat) (e : Entry) (c : Closing) (q : Request) (ws : List Word) (qs : List Nat) (ident : BitVec 24),
    s.entry i = some e → q.index = i →
    let closedBy := fun a : Answer => s.closesEntry (s.deliver q a ident) e c
    (e.turn = none → e.removing = some c → q.purpose = .deliveryState → closedBy .fault ∧ closedBy (.served ws qs))
      ∧ ∀ wb, e.turn = some (.writingBack wb) → wb.after = .closes c →
        (q.purpose = .deliveryState → closedBy .fault ∧ closedBy (.served ws qs))
          ∧ (q.purpose = .confirmRead →
            closedBy .fault ∧ ((ws.getD 8 0#32).extractLsb' 0 24 = 0#24 → closedBy (.served ws qs)))
          ∧ (q.purpose = .confirmWrite → closedBy .fault)

/-! ## Attention, radio and time registers -/

/-- RADIO_RESTART by the radio state, what the next cycle start makes of the restart mark, and its order against a Key
Monitor trip (R143). -/
def Obligations.RadioRestartMarksAFault : Prop :=
  ∀ s : State,
    (s.host.active = none → s.host.runState = .halted ∨ s.host.runState = .running →
        (s.air.radio = .fault →
            exec .radioRestart s =
              .next { s with
                host := { s.host with lastCommand := 7#4, lastResult := .done }
                air := { s.air with restartMark := true } })
          ∧ (s.air.radio ≠ .fault →
            exec .radioRestart s =
              .next { s with host := { s.host with lastCommand := 7#4, lastResult := .wrongState } }))
      ∧ (s.air.radio = .fault → s.air.restartMark = true →
        let back : AirLink :=
          { s.air with radio := .active, restartMark := false, lostSlots := 0, stage := .beaconSense 0 }
        (s.host.runState = .running → s.host.active ≠ some .halt → s.time.position = .slot 63 →
            s.time.periodOver = true → ∃ t, exec .cycleStart s = .next t ∧ t.air = back)
          ∧ (s.host.active = none → s.host.runState = .halted → s.time.timeSet = true →
            ∃ t, exec .run s = .next t ∧ t.air = back))
      ∧ ∃ t, exec .keyMonitorTrip s = .next t ∧ t.air.radio = .fault ∧ t.air.restartMark = s.air.restartMark

/-- ATTN_ENABLE and the attention output (R177). -/
def Obligations.EnablesFilterTheAttentionOutput : Prop :=
  ∀ (s : State) (v : Word),
    exec (.attnEnableWrite v) s = .next { s with host := { s.host with enable := v.extractLsb' 0 9 } }
      ∧ (s.attentionOutput = true ↔ ∃ k, k < 9 ∧ s.host.attention.getLsbD k = true ∧ s.host.enable.getLsbD k = true)
      ∧ s.registerWord 3 = (0#23 ++ s.host.attention) ∧ s.registerWord 4 = (0#23 ++ s.host.enable)
      ∧ State.reset.host.enable = 0#9
      ∧ (∃ t, exec .powerOnReset s = .next t ∧ t.host.enable = 0#9)
      ∧ ∃ t, exec .reload s = .next t ∧ t.host.enable = s.host.enable

/-- A write of STORE_TIME sets the clock and restarts the second; a second tick adds one second and finds the held tickets
whose deadline it reaches; with store time unset there is no tick (R18, R20, R51). That the tick sets a due mark, which
TICKET_EXPIRY takes later, is the model's choice (log 15). -/
def Obligations.StoreTimeEventsMoveTheClock : Prop :=
  ∀ (s : State) (v : Word),
    (∃ t : State, exec (.storeTimeWrite v) s = .next t
        ∧ t = { s with
            time := { s.time with storeTime := v, timeSet := true, subSecond := 0, liveRush := t.time.liveRush } })
      ∧ (s.time.timeSet = false → exec .secondTick s = .next s)
      ∧ (s.time.timeSet = true →
        let now := s.time.storeTime + 1#32
        ∃ t : State, exec .secondTick s = .next t
          ∧ t = { s with
              time := { s.time with storeTime := now, subSecond := 0, liveRush := t.time.liveRush }
              unit := { s.unit with tickets := t.unit.tickets } }
          ∧ ∀ n, t.ticket n =
              (s.ticket n).map fun k =>
                { k with expiryDue :=
                    k.expiryDue || (!k.expired && k.deadline != 0#32 && decide (k.deadline.toNat ≤ now.toNat)) })

/-- The live rush state after a second tick or a write of STORE_TIME, by the table of R27. -/
def Obligations.LiveRushFollowsTheWindowTable : Prop :=
  ∀ (s t : State) (i : Instr), (∃ v, i = .storeTimeWrite v) ∨ (i = .secondTick ∧ s.time.timeSet = true) →
    exec i s = .next t →
    let u := t.time.storeTime.toNat % 86400
    let d := t.time.storeTime.toNat / 86400
    (s.load = none → t.time.liveRush = .closed)
      ∧ ∀ l, s.load = some l →
        (86400 ≤ l.rushStart ∨ 86400 ≤ l.rushEnd ∨ l.rushStart = l.rushEnd → t.time.liveRush = .closed)
          ∧ (l.rushStart < l.rushEnd → l.rushEnd < 86400 →
            t.time.liveRush = if l.rushStart ≤ u ∧ u < l.rushEnd then .openDay d else .closed)
          ∧ (l.rushEnd < l.rushStart → l.rushStart < 86400 →
            t.time.liveRush =
              if l.rushStart ≤ u then .openDay d
              else if u < l.rushEnd ∧ 1 ≤ d then .openDay (d - 1)
              else .closed)

/-! ## Sweeps and the board -/

/-- A NUDGE write and a timer expiry ask for a sweep: it starts, or the pending-sweep mark is set. Outside RUNNING a NUDGE
has no effect (R35, R172). -/
def Obligations.SweepRequestsStartOrMark : Prop :=
  ∀ (s : State) (v : Word),
    let started := { s with unit := { s.unit with sweepActive := true, sweepTimer := some 0 } }
    let marked := { s with unit := { s.unit with sweepPending := true } }
    (s.host.runState ≠ .running → exec (.nudge v) s = .next s)
      ∧ (s.host.runState = .running → s.host.active ≠ some .halt →
        (s.unit.sweepActive = false → exec (.nudge v) s = .next started)
          ∧ (s.unit.sweepActive = true → exec (.nudge v) s = .next marked)
          ∧ (s.unit.sweepTimer.isSome = true →
            exec .sweepTimerExpiry s = .next (if s.unit.sweepActive then marked else started)))

/-- The slot of the board needs no act of a sweep: FREE or SETTLED with no ticket held, or the word that the held ticket's
context expects. -/
def Sys2Proof.Machine.State.slotAgrees (s : State) (n : Nat) : Prop :=
  s.ticketFaulty n 0 = false
    ∧ match s.ticket n with
      | none => s.ticketWord n 0 = 0#32 ∨ s.ticketWord n 0 = 5#32
      | some k => s.ticketWord n 0 = k.state.word

/-- A sweep acts on slots 0 to 31 one after another, then the arbiter chooses, and the sweep ends, or is followed at once by
the one that was asked for meanwhile (R35, R40; log 38; that no walk starts once HALT has been taken is log 21; what the end
of a walk hands a CANCEL is log 32). On a board
that agrees with the ticket table it changes nothing; at a slot that does not agree, and is not a POSTED ticket to take, it
repairs or leaves the word and latches BOARD_CLASH, with MEMORY_FAULT for a parity fault (R36, R37). -/
def Obligations.SweepsReadTheBoard : Prop :=
  (∀ s : State, s.unit.sweepActive = true →
    let v := (List.range 32).foldl State.sweepSlot s
    ∃ u : State, v.arbitrates u
      ∧ exec .sweep s =
        .next { u with unit :=
          if u.unit.sweepPending = true ∧ u.host.runState = .running ∧ u.host.active ≠ some .halt then
            { u.unit with sweepActive := true, sweepPending := false, sweepTimer := some 0 }
          else { u.unit with sweepActive := false, sweepPending := false } })
  ∧ (∀ s : State, s.unit.sweepActive = true → (∀ n, n < 32 → s.slotAgrees n) → s.walk.isSome = true ∨ s.noneWaits →
    exec .sweep s =
      .next { s with unit :=
          if s.unit.sweepPending = true ∧ s.host.runState = .running ∧ s.host.active ≠ some .halt then
            { s.unit with sweepActive := true, sweepPending := false, sweepTimer := some 0 }
          else { s.unit with sweepActive := false, sweepPending := false } })
  ∧ ∀ (s : State) (n : Nat), n < 32 →
    (s.ticketFaulty n 0 = true →
        s.sweepSlot n = { s with host := { s.host with attention := s.host.attention ||| 0x018#9 } })
      ∧ (s.slotAgrees n → s.sweepSlot n = s)
      ∧ (s.ticketFaulty n 0 = false → s.ticket n = none → ¬ s.slotAgrees n → s.ticketWord n 0 ≠ 1#32 →
        s.sweepSlot n = { s with host := { s.host with attention := s.host.attention ||| 0x008#9 } })
      ∧ ∀ k, s.ticketFaulty n 0 = false → s.ticket n = some k → ¬ s.slotAgrees n →
        s.sweepSlot n =
          { s with
            ram := s.ram.setWord (s.ticketOffset n 0) k.state.word
            host := { s.host with attention := s.host.attention ||| 0x008#9 } }

/-- A byte area shares a byte with the header, the board, the directory or the settings block of a load (R38, R60, R179). -/
def Sys2Proof.Machine.Load.meets (l : Load) (a la : Nat) : Bool :=
  let shares := fun b lb : Nat => decide (a < b + lb ∧ b < a + la)
  shares 0 64 || shares l.boardBase 4096 || shares l.directoryBase (64 * l.directorySize) || shares l.settingsBase 64

/-- What a link word leads to under a chain base: SHORT counts cards from it, LONG is a card number, NULL is none, and form 3,
a card beyond the RAM and one that meets a fixed area are bad (R59, R60). -/
def Sys2Proof.Machine.Load.leads (l : Load) (chainBase : Nat) (link : Word) : LinkTarget :=
  let form := (link.extractLsb' 17 2).toNat
  let number := if form = 1 then chainBase / 32 + (link.extractLsb' 0 16).toNat else (link.extractLsb' 0 17).toNat
  if form = 0 then .null
  else if form = 3 ∨ 131072 ≤ number ∨ l.meets (32 * number) 32 = true then .bad
  else .card number

/-- A ticket found POSTED: the first check of R38 that fails settles it MALFORMED with its reason, and MEMORY_FAULT is latched
when that is the reading of its fields; a deadline already come settles it EXPIRED; else it is taken QUEUED, its tallies and
counts 0 and its word left POSTED. An URGENT one taken while an OVERNIGHT walk is in progress asks for its parking: the walk
holds the request until its next card boundary, or is parked at once when it stands at one (R38, R39, R42, R43, R71; that a
walk at rest is parked at once, and that one which has read no card is at no boundary and holds the request, are the model's
readings, logs 18 and 41; that no walk follows once HALT has been taken is log 21; what the end of a walk hands a CANCEL is log
32). -/
def Obligations.PostedTicketsAreTakenOrMalformed : Prop :=
  ∀ (s : State) (n : Nat) (l : Load), n < 32 → s.load = some l → s.ticket n = none → s.ticketFaulty n 0 = false →
    s.ticketWord n 0 = 1#32 → s.boardBase % 4 = 0 → s.ram.wf = true →
    let readable := ∀ off ∈ [4, 92, 96, 100, 104, 108, 112, 116], s.ticketFaulty n off = false
    let cls := ((s.ticketWord n 100).extractLsb' 24 8).toNat
    let chain := (s.ticketWord n 92).toNat
    let limit := ((s.ticketWord n 100).extractLsb' 0 24).toNat
    let activation := s.ticketWord n 104
    let deadline := s.ticketWord n 108
    let list := (s.ticketWord n 112).toNat
    let capacity := ((s.ticketWord n 116).extractLsb' 0 16).toNat
    let fault : Option Reason :=
      if 2 ≤ cls then some .badClass
      else if chain % 32 ≠ 0 ∨ 4194304 ≤ chain then some .badChain
      else if limit = 0 then some .badLimit
      else if l.leads chain (s.ticketWord n 96) = .bad then some .badLink
      else if capacity ≠ 0 ∧ (4095 < capacity ∨ list % 16 ≠ 0 ∨ 4194304 < list + 16 * capacity ∨ l.meets list (16 * capacity) = true)
        then some .badList
      else if activation ≠ 0#32 ∧ deadline ≠ 0#32 ∧ deadline.toNat < activation.toNat then some .badTimes
      else none
    let zeroed := fun t : State =>
      t.ticketWord n 4 = s.ticketWord n 4 ∧ t.ticketWord n 8 = 0#32 ∧ t.ticketWord n 16 = 0#32 ∧ (∀ k < 17, t.ticketWord n (24 + 4 * k) = 0#32)
        ∧ ∀ x, x < s.ticketOffset n 0 ∨ s.ticketOffset n 92 ≤ x → t.ram.byte x = s.ram.byte x
    let settled := fun (o : TicketOutcome) (r : Reason) (causes : BitVec 9) =>
      ∃ t : State, s.sweepSlot n = t ∧ zeroed t ∧ t.ticketWord n 0 = 5#32
        ∧ t.ticketWord n 12 = (0#16 ++ r.number ++ o.number : BitVec 32) ∧ t.ticketWord n 20 = 0xFFFFFFFF#32
        ∧ t = { s with ram := t.ram, host := { s.host with attention := s.host.attention ||| causes } }
    (∀ (base : Nat) (link : Word), s.resolveLink base (linkOfWord link) = l.leads base link)
      ∧ (¬ readable → settled .malformed .memory 0x014#9)
      ∧ (readable → ∀ r, fault = some r → settled .malformed r 0x004#9)
      ∧ (readable → fault = none → deadline ≠ 0#32 → deadline.toNat ≤ s.time.storeTime.toNat → settled .expired .none 0x004#9)
      ∧ (readable → fault = none → deadline = 0#32 ∨ s.time.storeTime.toNat < deadline.toNat →
        let k : Ticket :=
          { state := .queued, cls := if cls = 1 then .urgent else .overnight, sequence := s.ticketWord n 4, chainBase := chain,
            firstLink := linkOfWord (s.ticketWord n 96), cardLimit := limit, activation := activation, deadline := deadline,
            listAddress := list, listCapacity := capacity, tallies := List.replicate 17 0#32, entriesWritten := 0#16,
            overflow := 0#16, progressMark := 0#32, outcome := none, reason := .none, stopCard := none, cancelled := false,
            expired := false, expiryDue := false, lastCard := none }
        ∃ v : State, zeroed v ∧ v.ticketWord n 0 = 1#32 ∧ v.ticketWord n 12 = s.ticketWord n 12
          ∧ v.ticketWord n 20 = s.ticketWord n 20
          ∧ v = { s with ram := v.ram, unit := { s.unit with tickets := assocPut n k s.unit.tickets } }
          ∧ (¬ (cls = 1 ∧ ∃ w j, s.walk = some w ∧ s.ticket w.slot = some j ∧ j.cls = .overnight) → s.sweepSlot n = v)
          ∧ ∀ w j, cls = 1 → s.walk = some w → s.ticket w.slot = some j → j.cls = .overnight →
            ((∃ app r, w.phase = .turnStall app r) ∨ (∃ app, w.phase = .reading app) ∨ (∃ app st, w.phase = .writing app st)
                ∨ (∃ c m, w.phase = .iterating c m) ∨ w.phase = .ready ∧ w.fresh = true →
              s.sweepSlot n = { v with walk := some { w with parkRequest := true } })
              ∧ (w.phase = .ready → w.fresh = false → w.endRequest = none → (v.parksWalk w j).arbitrates (s.sweepSlot n))
              ∧ ∀ app r, w.phase = .roomStall app r → w.endRequest = none →
                (v.parksWalk w.stopsInRoom j).arbitrates (s.sweepSlot n))

/-- An exception entry goes to the position that entries written names, or is counted in the overflow count when the list
is full (R48, R49). -/
def Obligations.ExceptionEntriesFillTheList : Prop :=
  ∀ (s : State) (n : Nat) (k : Ticket) (e : ExceptionEntry), n < 32 → s.ticket n = some k → s.boardBase % 4 = 0 →
    s.ram.wf = true →
    let t := s.writeException n e
    (t = { s with ram := t.ram, unit := { s.unit with tickets := t.unit.tickets } }
        ∧ ∀ m, m ≠ n → t.ticket m = s.ticket m)
      ∧ (k.entriesWritten.toNat < k.listCapacity → k.listCapacity ≤ 4095 → k.listAddress % 16 = 0 →
        (k.listAddress + 16 * k.listCapacity ≤ s.boardBase ∨ s.boardBase + 4096 ≤ k.listAddress) →
        let at_ := k.listAddress + 16 * k.entriesWritten.toNat
        t.ram.word at_ = (0#8 ++ e.kind.number ++ BitVec.ofNat 16 e.index : BitVec 32)
          ∧ t.ram.word (at_ + 4) = (0#8 ++ e.ident : BitVec 32)
          ∧ t.ram.word (at_ + 8) = (match e.card with | none => 0xFFFFFFFF#32 | some c => BitVec.ofNat 32 c)
          ∧ t.ram.word (at_ + 12) = e.detail
          ∧ t.ticketWord n 8 = (k.overflow ++ (k.entriesWritten + 1#16) : BitVec 32)
          ∧ t.ticket n = some { k with entriesWritten := k.entriesWritten + 1#16 }
          ∧ ∀ x, (x < at_ ∨ at_ + 16 ≤ x) → x / 4 ≠ s.ticketOffset n 8 / 4 → t.ram.byte x = s.ram.byte x)
      ∧ (k.listCapacity ≤ k.entriesWritten.toNat →
        let more := if k.overflow = 0xFFFF#16 then 0xFFFF#16 else k.overflow + 1#16
        t.ticket n = some { k with overflow := more }
          ∧ t.ram = s.ram.setWord (s.ticketOffset n 8) (more ++ k.entriesWritten : BitVec 32))

/-- A load reads slots 0 to 31 of the board at the base its header names: FREE, POSTED and SETTLED words stay, a word of no
state latches BOARD_CLASH, a faulty one MEMORY_FAULT too, and a ticket in a part-owned state is settled INTERRUPTED, its
interrupted tally entered less the sum of the other eight, or 0 with entered raised to that sum, each of the eight as it was
read; then the load ends (R55, R183). A faulted tally of the nine is taken as 0 and latches MEMORY_FAULT, and every word
written carries fresh parity. That the stored interrupted tally is not read is the model's choice (log 55), and a sum that
does not fit its word is stored as a free value (log 4). -/
def Obligations.InterruptedTicketsBalance : Prop :=
  (∀ (s : State) (p : Nat), p % 4 = 0 → s.ram.wf = true →
    let bad := fun k : Nat => s.ram.faulty (p + 52 + 4 * k)
    let read := fun k : Nat => if bad k then 0 else (s.ram.word (p + 52 + 4 * k)).toNat
    let sum := read 1 + read 2 + read 3 + read 4 + read 5 + read 6 + read 7 + read 8
    let t := s.interruptTicket p
    let tally := fun k : Nat => (t.ram.word (p + 52 + 4 * k)).toNat
    (sum ≤ read 0 → tally 0 = read 0) ∧ (read 0 < sum → sum < 2 ^ 32 → tally 0 = sum)
      ∧ (2 ^ 32 ≤ sum → t.ram.word (p + 52) = Config.overflowedTally sum)
      ∧ (∀ k, 1 ≤ k → k ≤ 8 → tally k = read k) ∧ tally 9 = read 0 - sum
      ∧ t.ram.word (p + 12) = 5#32 ∧ t.ram.word (p + 20) = 0xFFFFFFFF#32 ∧ t.ram.word p = 5#32
      ∧ (∀ x ∈ [p, p + 12, p + 20], t.ram.faulty x = false) ∧ (∀ k, k ≤ 9 → t.ram.faulty (p + 52 + 4 * k) = false)
      ∧ ((∀ k, k ≤ 8 → bad k = false) → t.host = { s.host with attention := s.host.attention ||| 0x004#9 })
      ∧ ((∃ k, k ≤ 8 ∧ bad k = true) → t.host = { s.host with attention := s.host.attention ||| 0x014#9 })
      ∧ t = { s with ram := t.ram, host := t.host }
      ∧ ∀ x, (x < p ∨ p + 92 ≤ x ∨ (p + 4 ≤ x ∧ x < p + 12) ∨ (p + 16 ≤ x ∧ x < p + 20) ∨ (p + 24 ≤ x ∧ x < p + 52)) →
          t.ram.byte x = s.ram.byte x ∧ t.ram.faulty x = s.ram.faulty x)
  ∧ (∀ (s : State) (base n : Nat),
    let p := base + 128 * n
    let w := s.ram.word p
    let latched := fun causes : BitVec 9 => { s with host := { s.host with attention := s.host.attention ||| causes } }
    (s.ram.faulty p = true → State.loadSweepSlot base s n = latched 0x018#9)
      ∧ (s.ram.faulty p = false →
        (w = 2#32 ∨ w = 3#32 ∨ w = 4#32 → State.loadSweepSlot base s n = s.interruptTicket p)
          ∧ (w = 0#32 ∨ w = 1#32 ∨ w = 5#32 → State.loadSweepSlot base s n = s)
          ∧ (5 < w.toNat → State.loadSweepSlot base s n = latched 0x008#9)))
  ∧ ∀ s : State, s.host.runState = .loading → s.loader = .checking → (∀ j < 16, s.ram.faulty (4 * j) = false) →
    s.readHeader.faultCode = .none → (∀ j < 16, s.ram.faulty ((s.ram.word 20).toNat + 4 * j) = false) →
    ((s.ram.word (s.ram.word 20).toNat).extractLsb' 16 8).toNat ≤ 15 →
    let v := (List.range 32).foldl (State.loadSweepSlot (s.ram.word 8).toNat) s
    ∃ t : State, exec .loadCheck s = .next t ∧ t.load.isSome = true
      ∧ t = { v with
          load := t.load
          loader := .idle
          time := { s.time with liveRush := t.time.liveRush }
          host := { v.host with
            runState := .halted
            loadFault := .none
            lastCommand := 3#4
            lastResult := .done
            active := none
            attention := v.host.attention ||| 0x001#9 } }

/-! ## The Delivery Roster -/

/-- What the engine is asked for an application, from the words of a record: the image to work on is Q2 of an index with an
entry, else Q1; a DIGIT label has no partner, and numbers above their range are taken at its end (R3, R10, R67, R85). -/
def Sys2Proof.Machine.Application.asks (app : Application) (kind : CardKind) (ws : List Word) : EngineInput :=
  let field := fun j : Nat => ((ws.getD j 0#32).extractLsb' 0 24).toNat
  let price := fun j : Nat => min 9999999 (field j)
  let image := if app.fromEntry then 8 else 4
  let panel := (ws.getD 0 0#32).extractLsb' 24 8 == 1#8
  { kind := kind, card := app.card, panel := panel,
    basis :=
      match ((ws.getD 1 0#32).extractLsb' 16 8).toNat with
      | 1 => .per100g | 2 => .perKg | 3 => .per100ml | 4 => .perL | 5 => .perPiece | _ => .none
    net := min 999999 (field 2)
    working :=
      { primary := price image, partner := if panel then price (image + 1) else 0, unit := price (image + 2),
        badges := (ws.getD image 0#32).extractLsb' 24 8 } }

/-- What a ticket's expiry and its cancellation make of one entry, and of no other (R123, R124, R125). The other decisions of
the Roster begin with the answer to an application's record read: a label that is damaged or vacant and a missing base are
refused, a failed guard and an unchanged image are counted, a fault is counted faulted (R66, R67, R69, R70). A new image is
entered: an entry that is busy stalls the walker, one come or gone since the opening question asks it again, a full Roster
stalls for room, and else the decision is held while the four words of Q2 are written (R8, R68, R71, R72, R105, R108, R188).
While an end request is held the answer abandons the application instead: nothing is counted, reported or entered, and the walk
ends (R73, R82; log 17). The write's completion makes the new entry, merges into the ticket's own, or supersedes another
ticket's, which counts superseded and the new one entered (R13, R109, R110, R111); its fault drops the decision, and the
deferred actions of an entry that stays its ticket's own act (R112, R125). End requests, the arbiter under HALT and a CANCEL at
these boundaries are logs 17, 21 and 32. -/
def Obligations.ExpiryAndCancellationActByState : Prop :=
  (∀ (s : State) (i : Nat) (e : Entry), s.entry i = some e → s.oneEntryEach = true →
    s.expireEntry i = s.entriesTake [e] Entry.takesExpiry
      ∧ s.cancelEntry i = s.entriesTake [e] fun x => x.takesCancel (s.passed x))
  ∧ (∀ (s : State) (w : Walk) (k : Ticket) (app : Application) (kind : CardKind) (q : Request) (ws : List Word)
      (qs : List Nat) (a : BitVec 24),
    q.purpose = .recordRead → s.walk = some w → w.phase = .reading app → s.ticket w.slot = some k → k.tallies.length = 17 →
    (app.card.w0.extractLsb' 0 8).toNat = kind.number →
    let t := s.deliver q (.served ws qs) a
    let field := fun j : Nat => (ws.getD j 0#32).extractLsb' 0 24
    let ident := field 0
    let exponent := min 5 ((ws.getD 1 0#32).extractLsb' 0 3).toNat
    let input := app.asks kind ws
    let refused := fun why : ExceptionKind =>
      s.completesCard t w app.card 4 (some (app.card.exception app.cardNumber why app.index ident))
    let next := fun v : BitVec 16 => if v = 0xFFFF#16 then 1#16 else v + 1#16
    let ofOvernight := (s.roster.entries.filter fun e => e.cls == .overnight).length
    (∀ o, w.endRequest = some o →
        s.walkStops t w o .none none 0#9 ∧ s.walkStops (s.deliver q .fault a) w o .none none 0#9)
      ∧ (w.endRequest = none →
        s.completesCard (s.deliver q .fault a) w app.card 6
          (some (app.card.exception app.cardNumber .memoryFault app.index a)))
      ∧ (w.endRequest = none → ident = 0#24 ∨ ident = 0xFFFFFF#24 → refused .badTarget)
      ∧ (w.endRequest = none → ident ≠ 0#24 → ident ≠ 0xFFFFFF#24 →
        (evaluate input = .badBase → refused .badBase)
          ∧ (evaluate input = .notApplied → s.completesCard t w app.card 3 none)
          ∧ (evaluate input = .same → s.completesCard t w app.card 2 none)
          ∧ ∀ im clamped raw, evaluate input = .newImage im clamped raw →
            let accepted := fun (v : BitVec 16) (roster : Roster) =>
              ∃ a b c e : Word,
                t = { s with
                    walk := some { w with phase := .writing app ⟨ident, im, clamped, raw, v⟩ }
                    cache := { s.cache with
                      walkerRequest := some ⟨app.index, .write [(8, a), (9, b), (10, c), (11, e)], .stageImage⟩ }
                    roster := roster }
                  ∧ a.extractLsb' 0 24 = BitVec.ofNat 24 im.primary ∧ a.extractLsb' 24 8 = im.badges
                  ∧ b.extractLsb' 0 24 = BitVec.ofNat 24 im.partner ∧ b.extractLsb' 24 5 = BitVec.ofNat 5 w.slot
                  ∧ b.extractLsb' 29 3 = k.activation.extractLsb' 16 3
                  ∧ c.extractLsb' 0 24 = BitVec.ofNat 24 im.unit ∧ c.extractLsb' 24 4 = 1#4
                  ∧ c.extractLsb' 28 4 = k.activation.extractLsb' 19 4
                  ∧ e.extractLsb' 0 16 = v ∧ e.extractLsb' 16 16 = k.activation.extractLsb' 0 16
            let decided := fun v : BitVec 16 =>
              ({ ticket := w.slot, cls := k.cls, activation := k.activation, version := v } : Decision)
            (s.entry app.index = none →
              (app.fromEntry = true → s.opens t w app.card app.cardNumber app.index)
                ∧ (app.fromEntry = false →
                  let full := 4096 ≤ s.roster.entries.length ∨ k.cls = .overnight ∧ 3840 ≤ ofOvernight
                  (full → s.stallsForRoom t w app)
                    ∧ (¬ full →
                      let v := next ((ws.getD 7 0#32).extractLsb' 0 16)
                      accepted v
                        { s.roster with
                          newEntry :=
                            some
                              { index := app.index, ident := ident, slot := wakeSlot app.index,
                                phase := wakePhase app.index exponent, exponent := exponent,
                                rushing := (ws.getD 12 0#32).getLsbD 4,
                                rushDay := ((ws.getD 13 0#32).extractLsb' 16 16).toNat, decision := decided v } })))
              ∧ ∀ e, s.entry app.index = some e →
                let busy := e.turn.isSome = true ∨ e.removing.isSome = true ∨ e.decision.isSome = true
                (busy → s.stallsInTurn t w app)
                  ∧ (¬ busy → app.fromEntry = false → s.opens t w app.card app.cardNumber app.index)
                  ∧ (¬ busy → app.fromEntry = true →
                    let full := e.cls = .urgent ∧ k.cls = .overnight ∧ 3840 ≤ ofOvernight
                    (full → s.stallsForRoom t w app)
                      ∧ (¬ full →
                        let v := if e.state = .waitingUpdate ∧ e.offered = false then e.version else next e.version
                        accepted v
                          { s.roster with
                            entries :=
                              s.roster.entries.map fun x =>
                                if x.index = app.index then { x with decision := some (decided v) } else x }))))
  ∧ (∀ (s : State) (w : Walk) (app : Application) (st : Staging) (q : Request) (ws : List Word) (qs : List Nat)
      (a : BitVec 24),
    q.purpose = .stageImage → s.walk = some w → w.phase = .writing app st →
    (∀ n j, s.ticket n = some j → j.tallies.length = 17) →
    let about := fun (kind : ExceptionKind) (detail : Word) =>
      (⟨app.index, st.ident, kind, some app.cardNumber, detail⟩ : ExceptionEntry)
    (s.completeDecision app.index).completesCard (s.deliver q (.served ws qs) a) w app.card 1
        (if st.clamped then some (about .clamped (BitVec.ofInt 32 st.raw)) else none)
      ∧ (s.dropDecision app.index).completesCard (s.deliver q .fault a) w app.card 6
        (some (about .memoryFault (BitVec.ofNat 32 (app.card.w0.extractLsb' 0 8).toNat))))
  ∧ (∀ (s : State) (i : Nat) (m : NewEntry), s.roster.newEntry = some m →
    let d := m.decision
    s.dropDecision i = { s with roster := { s.roster with newEntry := none } }
      ∧ ∃ v : State, s.reports v d.ticket 7 none
        ∧ s.completeDecision i =
          { v with
            roster :=
              { entries := s.roster.entries ++
                  [{ index := m.index, ident := m.ident, slot := m.slot, phase := m.phase, exponent := m.exponent,
                     rushing := m.rushing && s.time.liveRush == .openDay m.rushDay,
                     owner := d.ticket, cls := d.cls, state := .waitingUpdate, attempts := 0, offered := false,
                     version := d.version, activation := d.activation, turn := none, removing := none,
                     cancelWaits := false, deferCancel := false, deferExpiry := false, decision := none }]
                newEntry := none } })
  ∧ ∀ (s : State) (i : Nat) (e : Entry) (d : Decision), s.roster.newEntry = none → s.oneEntryEach = true →
    s.entry i = some e → e.decision = some d →
    let puts := fun x : Entry => s.roster.entries.map fun y => if y.index = i then x else y
    let heard := s.walk.map fun w => w.hearsTurnEnds [i]
    let merged : Entry :=
      { e with
        version := d.version
        offered := if d.version = e.version then e.offered else false
        attempts := if e.state = .waitingUpdate then e.attempts else 0
        state := .waitingUpdate
        decision := none }
    let taken : Entry :=
      { merged with
        owner := d.ticket, cls := d.cls, activation := d.activation, deferCancel := false, deferExpiry := false }
    s.dropDecision i = s.entryReturns e { e with decision := none }
      ∧ (d.ticket = e.owner → s.completeDecision i = s.entryReturns e merged)
      ∧ (d.ticket ≠ e.owner →
        ∃ v x : State, s.reports v e.owner 13 (some ⟨i, e.ident, .superseded, none, BitVec.ofNat 32 d.ticket⟩)
          ∧ v.reports x d.ticket 7 none
          ∧ (d.cls = e.cls →
            s.completeDecision i = { x with roster := { s.roster with entries := puts taken }, walk := heard })
          ∧ (d.cls ≠ e.cls →
            s.completeDecision i =
              { x with
                roster := { s.roster with entries := (s.roster.entries.filter fun y => y.index != i) ++ [taken] }
                walk := s.walk.map fun w => w.hearsRoom.hearsTurnEnds [i] }))

/-- TICKET_EXPIRY of a held ticket, by its state: a DELIVERING one becomes EXPIRED unless it was cancelled, and the Roster
takes its expiry; the walk of a WALKING one ends at once at a boundary or in a stall, or holds the request while a card is in
progress, unless it was cancelled; a PARKED one ends (R51, R123). CANCEL likewise: it ends a walk, and the Roster takes the
cancellation of a DELIVERING ticket, with DONE when no walk and no removal that it waits for is left; of one already expired or
cancelled it does nothing (R52, R124; the moment of DONE is log 32). At the end of a walk with live entries left the Roster
takes both; with none the ticket settles (R45, R50). A stall that ends is log 17; no walk follows under HALT is log 21. -/
def Obligations.ExpiryReachesEveryEntry : Prop :=
  (∀ (s : State) (n : Nat) (k : Ticket), n < 32 → s.ticket n = some k → k.expiryDue = true → k.expired = false →
    let expiry := exec (.ticketExpiry (BitVec.ofNat 5 n)) s
    let x : Ticket := { k with expired := true, expiryDue := false }
    let held := fun j : Ticket => { s with unit := { s.unit with tickets := assocPut n j s.unit.tickets } }
    (k.state = .delivering → s.oneEntryEach = true →
        expiry =
          .next
            (((held (if k.cancelled then x else { x with outcome := some .expired, reason := .none })).expiresEntries
              n).endsCancel))
      ∧ (k.state = .walking → k.cancelled = true → expiry = .next (held x))
      ∧ (∀ w, k.state = .walking → k.cancelled = false → s.walk = some w → w.slot = n →
        ((∃ app, w.phase = .reading app) ∨ (∃ app st, w.phase = .writing app st) ∨ (∃ c m, w.phase = .iterating c m) →
            expiry = .next { held x with walk := some { w with endRequest := some .expired } })
          ∧ (w.phase = .ready ∨ (∃ app r, w.phase = .roomStall app r) ∨ (∃ app r, w.phase = .turnStall app r) →
            ∃ t, expiry = .next t ∧ (held x).walkStops t w .expired .none none 0#9))
      ∧ (k.state = .parked →
        ∃ t, expiry = .next t ∧ ((held x).WalkMayEnd n x → (held x).endsWalk t n x .expired .none none 0#9)))
  ∧ ∀ (s : State) (n : Nat) (k : Ticket), n < 32 → s.ticket n = some k → s.host.active = none →
    s.host.runState = .halted ∨ s.host.runState = .running →
    let cancel := exec (.cancel (BitVec.ofNat 8 n)) s
    let named : HostLink := { s.host with lastCommand := 6#4 }
    let x : Ticket := { k with cancelled := true }
    let marked := fun j : Ticket =>
      { s with
        host := { named with active := some (.cancel n) }
        unit := { s.unit with tickets := assocPut n j s.unit.tickets } }
    (k.expired = true ∧ k.state ≠ .queued ∨ k.cancelled = true ∧ k.state = .delivering →
        cancel = .next { s with host := { named with lastResult := .done } })
      ∧ (∀ w, k.state = .walking → k.expired = false → s.walk = some w → w.slot = n →
        ((∃ app, w.phase = .reading app) ∨ (∃ app st, w.phase = .writing app st) ∨ (∃ c m, w.phase = .iterating c m) →
            cancel = .next { marked x with walk := some { w with endRequest := some .cancelled } })
          ∧ (w.phase = .ready ∨ (∃ app r, w.phase = .roomStall app r) ∨ (∃ app r, w.phase = .turnStall app r) →
            ∃ t, cancel = .next t ∧ (marked x).walkStops t w .cancelled .none none 0#9))
      ∧ (k.state = .parked → k.expired = false →
        ∃ t, cancel = .next t ∧ ((marked x).WalkMayEnd n x → (marked x).endsWalk t n x .cancelled .none none 0#9))
      ∧ (k.state = .delivering → k.expired = false → k.cancelled = false → s.oneEntryEach = true →
        cancel =
          .next (((marked { x with outcome := some .cancelled, reason := .none }).cancelsEntries n).endsCancel))

/-- The reply window of a turn is open, and its entry waits for the turn's result. -/
def Sys2Proof.Machine.State.awaitsReply (s : State) (x : AirTurn) (e : Entry) : Prop :=
  s.air.stage = .serving x.number true ∧ s.air.turn x.number = some x ∧ x.reported = false
    ∧ s.entry x.index = some e ∧ e.turn = some .exchanging

/-- A turn's result has been applied: the entry's attempts and rushing flag, the write-back begun with one request, and
nothing else but the controller's record of the turn (R121, R139). -/
def Sys2Proof.Machine.State.appliesResult (s t : State) (x : AirTurn) (e' : Entry) (q : Request) : Prop :=
  t = { s with
      roster := { s.roster with entries := s.roster.entries.map fun y => if y.index = x.index then e' else y }
      cache := { s.cache with airRequests := s.cache.airRequests ++ [q] }
      air := { s.air with
        stage := .serving x.number false
        turns := s.air.turns.map fun y => if y.number = x.number then { y with reported := true } else y } }

/-- A valid reply, by the frame its turn carried: the words of Q3, the entry's attempts, and what the write-back is to make of
it (R11, R117, R118, R119, R120). The write-back goes on as each of its requests is answered: Q3, then Q2 read and Q1 written
when the staged image is confirmed, then the delivery state; then the turn ends, with the deferred actions of an entry that
stays and the closing of one that is removed (R7, R121, R122, R125). The partner price that a confirmation takes from Q2 is
read by the kind in Q0, or by a free kind where Q0 has not come with it: the read names Q2 alone (log 5). What the end of a
removal hands a CANCEL is log 32. -/
def Obligations.ValidRepliesFollowTheirTables : Prop :=
  (∀ (s : State) (x : AirTurn) (e : Entry) (frame : List Byte) (r : Reply), s.awaitsReply x e → s.oneEntryEach = true →
    readReply s.cellCode x.ident frame = some r →
    let status := fun rushing : Bool => (0#16 ++ r.quality ++ 0#3 ++ BitVec.ofBool rushing ++ r.battery : BitVec 32)
    let y := s.time.cycleNumber
    let z := s.time.storeTime
    ∃ (t : State) (a : Nat) (wb : WriteBack), exec (.replyReceived frame) s = .next t
      ∧ s.appliesResult t x
          { e with
            attempts := a
            rushing := r.rushing && s.time.liveRush.isOpen
            turn := some (.writingBack wb) }
          { index := x.index
            purpose := .replyStatus
            op :=
              match s.time.liveRush with
              | .openDay day => .write [(12, status r.rushing), (13, (BitVec.ofNat 16 day ++ y : BitVec 32)), (14, z)]
              | .closed =>
                .update [(12, 0xFFFFFFFF#32, status false), (13, 0x0000FFFF#32, (0#16 ++ y : BitVec 32)),
                  (14, 0xFFFFFFFF#32, z)] }
      ∧ (let counted := fun (st : EntryState) (d : Option DeliveryState) =>
          a = e.attempts + 1
            ∧ wb =
                if e.attempts + 1 = s.attemptLimit then
                  { confirm := false, delivery := some .noReply, after := .closes (.noReply (e.attempts + 1)) }
                else { confirm := false, delivery := d, after := .stays st }
        let closed := fun (confirm : Bool) (d : DeliveryState) (c : Closing) =>
          a = e.attempts ∧ wb = { confirm := confirm, delivery := some d, after := .closes c }
        let passed := e.activation = 0#32 ∨ e.activation.toNat ≤ s.time.cycleTime.toNat
        (e.state = .waitingUpdate →
            (r.result = .staged → r.staged = some e.version →
                a = 0 ∧ wb.confirm = false ∧ wb.delivery = some .staged
                  ∧ (passed → wb.after = .stays .waitingProbe) ∧ (¬ passed → wb.after = .stays .heldStaged))
              ∧ (r.result = .staged → r.staged ≠ some e.version → counted .waitingUpdate none)
              ∧ (r.result = .shown → r.displayed = e.version → closed true .confirmed .confirmed)
              ∧ (r.result = .shown → r.displayed ≠ e.version → counted .waitingUpdate none)
              ∧ (r.result = .rejected → closed false .rejected (.rejected r.displayed))
              ∧ (r.result = .withdrawn → counted .waitingUpdate none))
          ∧ (e.state = .waitingProbe →
            (r.result = .shown → r.displayed = e.version → closed true .confirmed .confirmed)
              ∧ (r.result = .shown → r.displayed ≠ e.version → counted .waitingProbe none)
              ∧ (r.result = .rejected → closed false .rejected (.rejected r.displayed))
              ∧ (r.result = .staged → r.displayed ≠ e.version → r.staged = some e.version →
                a = e.attempts ∧ wb = { confirm := false, delivery := none, after := .stays .waitingProbe })
              ∧ (r.result = .staged → r.displayed ≠ e.version → r.staged ≠ some e.version →
                counted .waitingUpdate (some .pending))
              ∧ (r.result = .staged → r.displayed = e.version → counted .waitingProbe none)
              ∧ (r.result = .withdrawn → counted .waitingProbe none))
          ∧ (e.state = .waitingWithdraw →
            (r.result = .withdrawn → closed false .cancelled .cancelled)
              ∧ (r.result = .shown → r.displayed = e.version → closed true .alreadyShown .alreadyShown)
              ∧ (r.result = .shown → r.displayed ≠ e.version → counted .waitingWithdraw none)
              ∧ (r.result = .rejected → closed false .rejected (.rejected r.displayed))
              ∧ (r.result = .staged → counted .waitingWithdraw none))))
  ∧ ∀ (s : State) (i : Nat) (e : Entry) (wb : WriteBack) (q : Request) (ws : List Word) (qs : List Nat)
      (ident : BitVec 24), s.entry i = some e → e.turn = some (.writingBack wb) → q.index = i → s.oneEntryEach = true →
    let served := s.deliver q (.served ws qs) ident
    let faulted := s.deliver q .fault ident
    let asksAir := fun (op : CacheOp) (p : Purpose) =>
      { s with cache := { s.cache with airRequests := s.cache.airRequests ++ [⟨i, op, p⟩] } }
    let delivers := fun (t : State) (d : DeliveryState) =>
      t = { s with cache := { s.cache with deliveryRequests := s.cache.deliveryRequests ++ [deliveryWrite i d.number] } }
    let ends := fun t : State =>
      (∀ st, wb.after = .stays st → t = s.entryReturns e { e with turn := none, state := st })
        ∧ ∀ c, wb.after = .closes c → s.closesEntry t e c
    let thirdStep := fun t : State => (∀ d, wb.delivery = some d → delivers t d) ∧ (wb.delivery = none → ends t)
    let price := fun j : Nat => min 9999999 ((ws.getD j 0#32).extractLsb' 0 24).toNat
    let writesQ1 := fun partner : Nat =>
      asksAir
        (.write
          [(4, ((ws.getD 8 0#32).extractLsb' 24 8 ++ BitVec.ofNat 24 (price 8) : BitVec 32)),
           (5, (0#8 ++ BitVec.ofNat 24 partner : BitVec 32)), (6, (0#8 ++ BitVec.ofNat 24 (price 10) : BitVec 32)),
           (7, (0#16 ++ e.version : BitVec 32))])
        .confirmWrite
    (q.purpose = .replyStatus →
        (wb.confirm = true → served = asksAir (.read [2]) .confirmRead ∧ faulted = asksAir (.read [2]) .confirmRead)
          ∧ (wb.confirm = false → thirdStep served ∧ thirdStep faulted))
      ∧ (q.purpose = .confirmRead →
        ends faulted ∧ (price 8 = 0 → ends served)
          ∧ (price 8 ≠ 0 →
            (0 ∈ qs → served = writesQ1 (if (ws.getD 0 0#32).extractLsb' 24 8 = 1#8 then price 9 else 0))
              ∧ (0 ∉ qs → served = writesQ1 0 ∨ served = writesQ1 (price 9))))
      ∧ (q.purpose = .confirmWrite → ends faulted ∧ thirdStep served)
      ∧ (q.purpose = .deliveryState → ends faulted ∧ ends served)

/-- A window that closes empty, and a frame that is no valid reply, count one attempt and increase the label's consecutive
misses, which stop at 255 while the rest of Q3 stays; at the attempt limit the entry is removed as no_reply (R12, R120, R138,
R139). -/
def Obligations.SilenceCountsAnAttempt : Prop :=
  (∀ (s : State) (x : AirTurn) (e : Entry), s.awaitsReply x e → s.oneEntryEach = true →
    (∃ t : State, exec .replyWindowClose s = .next t
        ∧ s.appliesResult t x
            { e with
              attempts := e.attempts + 1
              turn := some (.writingBack
                (if e.attempts + 1 = s.attemptLimit then
                  { confirm := false, delivery := some .noReply, after := .closes (.noReply (e.attempts + 1)) }
                else { confirm := false, delivery := none, after := .stays e.state })) }
            { index := x.index, op := .countMiss, purpose := .replyStatus })
      ∧ ∀ frame, readReply s.cellCode x.ident frame = none →
        exec (.replyReceived frame) s = exec .replyWindowClose s)
  ∧ ∀ ws : List Word,
    let w := ws.getD 12 0#32
    let misses := w.extractLsb' 16 8
    ∃ v : Word, CacheOp.countMiss.changes ws = [(12, v)] ∧ v.extractLsb' 0 5 = w.extractLsb' 0 5
      ∧ v.extractLsb' 8 8 = w.extractLsb' 8 8 ∧ v.extractLsb' 5 3 = 0#3 ∧ v.extractLsb' 24 8 = 0#8
      ∧ (v.extractLsb' 16 8).toNat = min 255 (misses.toNat + 1)

/-- One bit goes into the remainder register of the frame check, bit 15 of which is the coefficient of x^15: the register moves
up by one, and the generator x^16 + x^12 + x^5 + 1 is added when its top bit and the one fed in differ (R129). -/
def Sys2Proof.Machine.checkStep (r : BitVec 16) (b : Bool) : BitVec 16 :=
  (r <<< 1) ^^^ (if r.getLsbD 15 = b then 0#16 else 0x1021#16)

/-- The remainder of the frame check: from all ones, each byte lowest bit first, and not inverted (R129). -/
def Sys2Proof.Machine.checkRemainder (bytes : List Byte) : BitVec 16 :=
  (bytes.flatMap fun x => (List.range 8).map fun k => x.getLsbD k).foldl checkStep 0xFFFF#16

/-- The frame check of any bytes is the remainder of R129, and every statement on frames speaks of this check; that its bit 0
is the coefficient of x^15 and bit 15 that of x^0 is the model's choice (log 45). A received frame is a valid reply exactly
when it passes the five checks, and then its fields are those placed in it (R129, R138). That a frame of another length than
fifteen bytes is none is the model's reading (log 9). -/
def Obligations.ReceivedFramesPassFiveChecks : Prop :=
  (∀ (bytes : List Byte) (k : Nat), k < 16 → (frameCheck bytes).getLsbD k = (checkRemainder bytes).getLsbD (15 - k))
  ∧ ∀ (cell : BitVec 16) (ident : BitVec 24) (frame : List Byte) (r : Reply),
    let b := fun k => frame.getD k 0#8
    let check := frameCheck (frame.take 13)
    readReply cell ident frame = some r ↔
      frame.length = 15 ∧ b 13 = check.extractLsb' 0 8 ∧ b 14 = check.extractLsb' 8 8
        ∧ (b 1 ++ b 0 : BitVec 16) = cell ∧ b 2 = 6#8 ∧ (b 5 ++ b 4 ++ b 3 : BitVec 24) = ident
        ∧ b 6 = (match r.result with | .staged => 1#8 | .shown => 2#8 | .rejected => 3#8 | .withdrawn => 4#8)
        ∧ r.displayed = (b 8 ++ b 7 : BitVec 16)
        ∧ r.staged = (if (b 11).getLsbD 0 then some (b 10 ++ b 9 : BitVec 16) else none)
        ∧ r.battery = (b 11).extractLsb' 4 4 ∧ r.rushing = (b 11).getLsbD 1 ∧ r.quality = b 12

/-- Every REPLY frame a label of the cell sends reads back as the reply it was made from, whatever its fields (R129, R138,
R145, R146; the check is the one O32 spells, log 45 for its bit order). -/
def Obligations.ReplyFramesReadBack : Prop :=
  ∀ (cell : BitVec 16) (ident : BitVec 24) (r : Reply), readReply cell ident (replyFrame cell ident r) = some r

/-! ## Cycles, slots and frames -/

/-- The schedule has stopped where the next period would start, and HALT has given DONE: HALTED, the radio OFF from ACTIVE
(R24, R128). -/
def Sys2Proof.Machine.State.haltEnds (s : State) : State :=
  { s with
    host := { s.host with runState := .halted, active := none, lastResult := .done }
    time := { s.time with position := .stopped, periodOver := false, periodMs := 0 }
    air := { s.air with radio := if s.air.radio = .active then .off else s.air.radio, stage := .idle } }

/-- The cycle start after slot 63: number, store time and rush state are taken, rush renewal clears the rushing flags,
activation times that have come move entries to WAITING_PROBE, and a marked FAULT returns to ACTIVE (R22, R23, R28, R29,
R113, R143). Under HALT the schedule stops in its place (R24). -/
def Obligations.CycleStartTakesNumberAndTime : Prop :=
  ∀ s : State, s.host.runState = .running → s.time.position = .slot 63 → s.time.periodOver = true →
    (s.host.active = some .halt → exec .cycleStart s = .next s.haltEnds)
    ∧ (s.host.active ≠ some .halt →
      let renewal := s.time.liveRush = .closed ∨ s.time.cycleRush ≠ s.time.liveRush
      ∃ t : State, exec .cycleStart s = .next t
        ∧ t.time = { s.time with
            cycleNumber := s.time.nextCycle
            nextCycle := s.time.nextCycle + 1#16
            cycleTime := s.time.storeTime
            cycleRush := s.time.liveRush
            position := .beacon
            periodOver := false
            periodMs := 0 }
        ∧ t.roster.newEntry = s.roster.newEntry
        ∧ t.roster.entries.length = s.roster.entries.length
        ∧ (∀ (j : Nat) (e : Entry), s.roster.entries[j]? = some e →
          ∃ e', t.roster.entries[j]? = some e' ∧ (renewal → e'.rushing = false) ∧ (¬ renewal → e'.rushing = e.rushing)
            ∧ (e.state = .heldStaged → e.activation.toNat ≤ s.time.storeTime.toNat → e'.state = .waitingProbe)
            ∧ (e.state ≠ .heldStaged ∨ s.time.storeTime.toNat < e.activation.toNat → e'.state = e.state)
            ∧ e' = { e with rushing := e'.rushing, state := e'.state })
        ∧ (s.air.radio = .active → t.air = { s.air with stage := .beaconSense 0 })
        ∧ (s.air.radio = .fault → s.air.restartMark = true →
          t.air = { s.air with radio := .active, restartMark := false, lostSlots := 0, stage := .beaconSense 0 })
        ∧ (s.air.radio = .fault → s.air.restartMark = false → t.air = { s.air with stage := .idle })
        ∧ t = { s with time := t.time, roster := t.roster, air := t.air })

/-- A sense of the beacon period: a clear one sends the beacon of the cycle start's values, a busy one goes on to the next
sense, and the third busy one skips the beacon (R129, R130, R131; the bit order of the check is log 45). A transmitter still
keyed goes on being measured (R142). -/
def Obligations.BeaconSensesSendOrSkip : Prop :=
  ∀ (s : State) (n : Nat), s.air.stage = .beaconSense n → s.air.radio = .active →
    let c := s.cellCode
    let y := s.time.cycleNumber
    let z := s.time.cycleTime
    let rush := s.time.cycleRush.isOpen
    let body : List Byte :=
      [c.extractLsb' 0 8, c.extractLsb' 8 8, 1#8, y.extractLsb' 0 8, y.extractLsb' 8 8, z.extractLsb' 0 8,
        z.extractLsb' 8 8, z.extractLsb' 16 8, z.extractLsb' 24 8, if rush then 1#8 else 0#8,
        if rush then (0#4 ++ s.batteryFloor : BitVec 8) else 0#8]
    let check := frameCheck body
    let frame := body ++ [check.extractLsb' 0 8, check.extractLsb' 8 8]
    exec (.beaconSense false) s =
        .next { s with air :=
          { s.air with stage := .idle, onAir := some frame, keyedMs := if s.air.onAir.isSome then s.air.keyedMs else 0 } }
      ∧ (n < 2 → exec (.beaconSense true) s = .next { s with air := { s.air with stage := .beaconSense (n + 1) } })
      ∧ (2 ≤ n → exec (.beaconSense true) s = .next { s with air := { s.air with stage := .idle } })

/-- The entry may be taken for a turn at its slot start in the current cycle (R26, R114). -/
def Sys2Proof.Machine.Entry.mayTakeTurn (e : Entry) (cycle : BitVec 16) : Bool :=
  (e.rushing || cycle.toNat % 2 ^ e.exponent == e.phase)
    && (e.state == .waitingUpdate || e.state == .waitingProbe || e.state == .waitingWithdraw)
    && e.turn.isNone && e.removing.isNone && e.decision.isNone

/-- The request is the record read of an UPDATE turn (R134, R149). -/
def Sys2Proof.Machine.Request.readsForTurn (q : Request) : Bool :=
  match q.purpose with
  | .updateContent _ => true
  | _ => false

/-- The cache with every UPDATE read withdrawn: off the queue, where the mark of the oldest request goes with it when that is
one (log 46), and off the fill it started, which runs on (R134, R149). -/
def Sys2Proof.Machine.Cache.withoutTurnReads (c : Cache) : Cache :=
  { c with
    airRequests := c.airRequests.filter (fun q => !q.readsForTurn)
    airAside := c.airAside && !(c.airRequests.head?.any fun q => q.readsForTurn)
    fill := c.fill.map (fun f => if f.request.any (fun q => q.readsForTurn) then { f with request := none } else f) }

/-- A slot start in an ACTIVE radio: the first six eligible entries of the slot's list become turns 1 to 6 in that order, and
the record of each UPDATE turn is asked for (R22, R106, R114, R115, R132, R134; that an entry turned to WAITING_WITHDRAW
earlier in the same cycle may be among them is log 44). Under HALT the schedule stops in its place, after the beacon period as
after a slot (R24). -/
def Obligations.SlotStartTakesTheFirstSix : Prop :=
  ∀ (s : State) (k : Fin 64),
    (s.time.position = .beacon ∧ k.val = 0
      ∨ ∃ j : Fin 64, s.time.position = .slot j ∧ s.time.periodOver = true ∧ k.val = j.val + 1) →
    (s.host.active = some .halt → exec .slotStart s = .next s.haltEnds)
    ∧ (s.host.active ≠ some .halt → s.air.radio = .active →
      let chosen := ((s.roster.inListOrder k.val).filter fun e => e.mayTakeTurn s.time.cycleNumber).take 6
      ∃ t : State, exec .slotStart s = .next t
        ∧ t.time = { s.time with position := .slot k, periodOver := false, periodMs := 0 }
        ∧ t.air.turns.map (fun x => (x.number, x.frame, x.index, x.ident, x.version, x.activation))
            = (chosen.zipIdx 1).map (fun p => (p.2, p.1.frame, p.1.index, p.1.ident, p.1.version, p.1.activation))
        ∧ (∀ x ∈ t.air.turns, x.reported = false ∧ x.content = if x.frame = .update then .awaited else .ready [])
        ∧ t.air = { s.air with turns := t.air.turns, stage := if chosen = [] then .idle else .slotSense 0 }
        ∧ t.roster = { s.roster with
            entries := s.roster.entries.map (fun e =>
              if e.index ∈ chosen.map (·.index) then { e with turn := some .exchanging } else e) }
        ∧ t.cache = { s.cache with airRequests :=
            s.cache.airRequests ++ ((t.air.turns.filter fun x => x.frame == .update).map fun x =>
              { index := x.index, op := .read [0, 2], purpose := .updateContent x.number }) }
        ∧ t = { s with time := t.time, air := t.air, roster := t.roster, cache := t.cache })

/-- A slot start in FAULT: the entries of the slot that are taken for turns return at once, which a walker that waits on one
of them hears, with the deferred actions they hold (their order is the model's choice, log 52), and neither the lost-slot
count nor CHANNEL_BUSY is touched (R116, R125, R141). -/
def Obligations.SlotsInFaultReturnTheirEntries : Prop :=
  ∀ (s : State) (k : Fin 64), s.host.active ≠ some .halt → s.air.radio = .fault → s.oneEntryEach = true →
    (s.time.position = .beacon ∧ k.val = 0
      ∨ ∃ j : Fin 64, s.time.position = .slot j ∧ s.time.periodOver = true ∧ k.val = j.val + 1) →
    let chosen := ((s.roster.inListOrder k.val).filter fun e => e.mayTakeTurn s.time.cycleNumber).take 6
    let begun : State :=
      { s with
        time := { s.time with position := .slot k, periodOver := false, periodMs := 0 }
        air := { s.air with turns := [], stage := .idle } }
    let taken : State :=
      { begun with roster := { s.roster with
          entries := s.roster.entries.map fun e => if e ∈ chosen then { e with turn := some .exchanging } else e } }
    (chosen = [] → exec .slotStart s = .next begun)
      ∧ (chosen ≠ [] → exec .slotStart s = .next (taken.slotReturns k.val))
      ∧ ((∀ e ∈ s.roster.entries, e.turn ≠ some .exchanging ∧ e.deferCancel = false ∧ e.deferExpiry = false) →
        exec .slotStart s = .next { begun with walk := s.walk.map fun w => w.hearsTurnEnds (chosen.map (·.index)) })

/-- A sense of a slot: a busy one goes on to the next sense; a clear one sends the roll call of the turns whose frames can be
sent, or none when every turn is dropped; the third busy one loses the slot, whose entries return with their deferred actions
(R116, R125, R133, R134, R135; log 47 for a slot with every turn dropped, log 52 for the order of the deferred actions; the
bit order of the check is log 45). The unread records of UPDATE turns are withdrawn with the roll call (log 46). -/
def Obligations.SlotSensesCallOrLose : Prop :=
  ∀ (s : State) (n : Nat) (k : Fin 64), s.air.stage = .slotSense n → s.time.position = .slot k →
    s.time.periodOver = false → s.air.radio = .active →
    let sendable := s.air.turns.filter fun x => match x.content with | .ready _ => true | .awaited | .dropped => false
    let c := s.cellCode
    let body : List Byte :=
      [c.extractLsb' 0 8, c.extractLsb' 8 8, 2#8, BitVec.ofNat 8 k.val, BitVec.ofNat 8 sendable.length]
        ++ sendable.flatMap fun x =>
            [x.ident.extractLsb' 0 8, x.ident.extractLsb' 8 8, x.ident.extractLsb' 16 8, BitVec.ofNat 8 x.number,
              match x.frame with | .update => 3#8 | .probe => 4#8 | .withdraw => 5#8]
    let check := frameCheck body
    let dropped := s.air.turns.map fun x => if x.content = .awaited then { x with content := .dropped } else x
    (n < 2 → exec (.slotSense true) s = .next { s with air := { s.air with stage := .slotSense (n + 1) } })
      ∧ (sendable ≠ [] →
        exec (.slotSense false) s =
          .next { s with
            cache := s.cache.withoutTurnReads
            air := { s.air with
              stage := .serving 0 false
              lostSlots := 0
              onAir := some (body ++ [check.extractLsb' 0 8, check.extractLsb' 8 8])
              keyedMs := if s.air.onAir.isSome then s.air.keyedMs else 0
              turns := dropped } })
      ∧ (sendable = [] →
        exec (.slotSense false) s =
          .next { s with
            cache := s.cache.withoutTurnReads
            air := { s.air with stage := .idle, turns := dropped } })
      ∧ (2 ≤ n → s.oneEntryEach = true →
        let lost := min 255 (s.air.lostSlots + 1)
        let r := s.slotReturns k.val
        exec (.slotSense true) s =
          .next { r with
            cache := r.cache.withoutTurnReads
            air := { s.air with turns := [], stage := .idle, lostSlots := lost }
            host := if 16 ≤ lost then { s.host with attention := s.host.attention ||| 0x080#9 } else s.host })

/-- A turn's start sends its frame, and an UPDATE sets its entry's offered mark; the frame's end unkeys the transmitter; then
the reply window opens. A transmitter still keyed goes on being measured; a trip of the Key Monitor unkeys at once, latches
RADIO_FAULT and puts the radio in FAULT (R104, R129, R134, R136, R142; the bit order of the check is log 45). The content of
an UPDATE is read from Q0 and Q2: the prices, basis and badges of a PANEL label, the packed digit strings and basis of a
DIGIT one; a faulted read drops the turn (R3, R85, R103, R134, R156). -/
def Obligations.TurnsSendTheirFrames : Prop :=
  (∀ (s : State) (x : AirTurn) (number : BitVec 3) (content : List Byte), s.air.turn x.number = some x →
    number.toNat = x.number →
    let c := s.cellCode
    let body : List Byte :=
      [c.extractLsb' 0 8, c.extractLsb' 8 8, match x.frame with | .update => 3#8 | .probe => 4#8 | .withdraw => 5#8,
        x.ident.extractLsb' 0 8, x.ident.extractLsb' 8 8, x.ident.extractLsb' 16 8, x.version.extractLsb' 0 8,
        x.version.extractLsb' 8 8]
      ++ if x.frame = .update then
          [x.activation.extractLsb' 0 8, x.activation.extractLsb' 8 8, x.activation.extractLsb' 16 8,
            x.activation.extractLsb' 24 8] ++ content
        else []
    let check := frameCheck body
    (∀ last, s.air.stage = .serving last false → last < x.number → x.content = .ready content →
        exec (.turnStart number) s =
          .next { s with
            air := { s.air with
              stage := .serving x.number false
              onAir := some (body ++ [check.extractLsb' 0 8, check.extractLsb' 8 8])
              keyedMs := if s.air.onAir.isSome then s.air.keyedMs else 0 }
            roster := { s.roster with
              entries := s.roster.entries.map (fun e =>
                if e.index = x.index ∧ x.frame = .update then { e with offered := true } else e) } })
      ∧ (s.air.stage = .serving x.number false → x.reported = false →
        exec .replyWindowOpen s = .next { s with air := { s.air with stage := .serving x.number true } }))
  ∧ (∀ (s : State) (q : Request) (number : Nat) (ws : List Word) (qs : List Nat) (ident : BitVec 24),
    q.purpose = .updateContent number →
    let price := fun j : Nat => min 9999999 ((ws.getD j 0#32).extractLsb' 0 24).toNat
    let bytes := fun p : Nat =>
      let v := BitVec.ofNat 24 p
      [v.extractLsb' 0 8, v.extractLsb' 8 8, v.extractLsb' 16 8]
    let packed := fun ds : List Nat =>
      let d := fun j : Nat => BitVec.ofNat 4 (ds.getD j 0)
      [(d 1 ++ d 0 : BitVec 8), (d 3 ++ d 2 : BitVec 8), (d 5 ++ d 4 : BitVec 8), (0#4 ++ d 6 : BitVec 8)]
    let basis := (ws.getD 1 0#32).extractLsb' 16 8
    let named : Byte := if basis.toNat ≤ 5 then basis else 0#8
    let content : List Byte :=
      if (ws.getD 0 0#32).extractLsb' 24 8 = 1#8 then
        [1#8] ++ bytes (price 8) ++ bytes (price 9) ++ bytes (price 10) ++ [named, (ws.getD 8 0#32).extractLsb' 24 8]
      else [0#8] ++ packed (digitString (price 8)) ++ packed (unitDigitString (price 10)) ++ [named]
    let becomes := fun c : TurnContent =>
      { s with air := { s.air with
          turns := s.air.turns.map fun x =>
            if x.number = number ∧ x.content = .awaited then { x with content := c } else x } }
    s.deliver q (.served ws qs) ident = becomes (.ready content) ∧ s.deliver q .fault ident = becomes .dropped)
  ∧ ∀ s : State,
    exec .frameSent s = .next { s with air := { s.air with onAir := none, keyedMs := 0 } }
      ∧ exec .keyMonitorTrip s =
        .next { s with
          air := { s.air with onAir := none, keyedMs := 0, radio := .fault, stage := .idle }
          host := { s.host with attention := s.host.attention ||| 0x040#9 } }

/-- A slot end: the turn list is cleared, and reads of its UPDATE turns that still wait are withdrawn with it, which is the
model's choice (log 27; log 46 for one set aside); entries without a result return with their deferred actions, one after
another in list order (the model's choice, log 52), which a walker that waits on one of them hears; and under HALT the
schedule stops there and HALT gives DONE (R24, R107, R116, R125, R128, R134, R140). -/
def Obligations.SlotEndReturnsEntries : Prop :=
  ∀ (s : State) (k : Fin 64), s.time.position = .slot k → s.time.periodOver = false → s.oneEntryEach = true →
    let r := s.slotReturns k.val
    let t : State :=
      { r with
        time := { s.time with periodOver := true }
        air := { s.air with turns := [], stage := .idle }
        cache := r.cache.withoutTurnReads }
    (s.host.active ≠ some .halt → exec .slotEnd s = .next t)
      ∧ (s.host.active = some .halt → exec .slotEnd s = .next t.haltEnds)

/-! ## The Chain Walker -/

/-- The walker is at rest with a walk, and runs. -/
structure Sys2Proof.Machine.State.WalkerReady (s : State) (w : Walk) (k : Ticket) : Prop where
  running : s.host.runState = .running
  noHalt : s.host.active ≠ some .halt
  walk : s.walk = some w
  ready : w.phase = .ready
  ticket : s.ticket w.slot = some k
  slot : w.slot < 32
  tallies : k.tallies.length = 17
  board : s.boardBase % 4096 = 0
  canonical : s.ram.wf = true

/-- The walker stands before a read of a card that can be made: the link leads to a card whose words read without fault, and
the card limit is not reached, which a card to be repeated does not count against (R60, R62). -/
structure Sys2Proof.Machine.State.BeforeCard (s : State) (w : Walk) (k : Ticket) (l : Link) (number : Nat) : Prop where
  ready : s.WalkerReady w k
  resolves : s.resolveLink k.chainBase l = .card number
  limit : w.next = .repeatCard ∨ (k.count 0).toNat < k.cardLimit
  readable : ∀ j < 8, s.ram.faulty (32 * number + 4 * j) = false

/-- The ticket once a card of its walk has been read: counted, unless it is repeated, and known as the last card read (R46,
R62; that a repeated card is the last card too is log 20). -/
def Sys2Proof.Machine.Ticket.hasRead (k : Ticket) (counted : Bool) (number : Nat) : Ticket :=
  { k with
    tallies := if counted then k.tallies.set 0 (k.count 0 + 1#32) else k.tallies
    lastCard := some number }

/-- A card has been read: counted on chip and on the board, unless it is repeated, and nothing else (R46, R62). -/
def Sys2Proof.Machine.State.hasRead (s : State) (w : Walk) (k : Ticket) (number : Nat) : State :=
  let counted := w.next != .repeatCard
  { s with
    ram := if counted then s.ram.setWord (s.ticketOffset w.slot 24) (k.count 0 + 1#32) else s.ram
    unit := { s.unit with tickets := assocPut w.slot (k.hasRead counted number) s.unit.tickets } }

/-- CARD_READ: the card is counted once, unless it is repeated, and acts by its kind and the checks of R64 in their order (R46,
R48, R58, R62, R64 to R67, R72, R74 to R77, R80). A span's body that a room stall left to be read again acts in its
iteration, its next link recorded as the exit link (R62, R71, R78, R79). At a NULL link the level ends with no card read
(R59, R75). That the current link of a span between two iterations is the body link, and that a NULL link is followed when
the card completes, is the model's reading (log 19), as are the last card kept for a repeated card (log 20), the exit link
of one (log 22), and what a boundary makes of an end request and of a CANCEL (logs 17 and 32); the exit link of a span that
no read has recorded is free (log 7). -/
def Obligations.CardReadsActByKind : Prop :=
  (∀ (s : State) (w : Walk) (k : Ticket) (number : Nat), s.BeforeCard w k w.link number → w.next ≠ .nextIteration →
    let c := s.readCard number
    let recorded : Walk :=
      { w with span := if w.body then w.span.map fun f => { f with exit := some (linkOfWord c.w4) } else w.span }
    ∃ t, exec .cardRead s = .next t
      ∧ (s.hasRead w k number).actsOnCard t recorded (k.hasRead (w.next != .repeatCard) number) c number)
  ∧ ∀ (s : State) (w : Walk) (k : Ticket), s.WalkerReady w k → w.next ≠ .nextIteration → w.link = .null →
    ∃ t, exec .cardRead s = .next t ∧ s.reaches t w w.endsLevel

/-- SPAN_ITERATION: the body is read, counted, and becomes the card in progress, its next link is the exit link, and Q0 of the
current index is asked for; at an index of N or above the span ends, and the walk goes on at the exit link, or where a NULL one
pops to (R62, R75, R78, R80; log 19 for NULL links, log 20 for the last card). A current link of form code 3, which a rewritten
resume area can hold, is followed instead of the body link, and ends the walk as a bad one with nothing counted (R60, R83,
R187). Then Q0 is answered: a fault counts faulted, and ends the span that has no start department; another department than the
start's ends the span of an until-department SPAN; a vacant index counts vacant, a damaged one is refused; else the body acts
(R78, R79; the index of the exception entries is log 42, an answer in HALTED log 43), in an application that a held end request
abandons unreported (R82). End requests, the arbiter under HALT and a CANCEL at these boundaries are logs 17, 21 and 32, an
exit link that no read has recorded log 7. -/
def Obligations.SpanIterationsTestTheIndex : Prop :=
  (∀ (s : State) (w : Walk) (k : Ticket) (f : SpanFrame) (number : Nat), s.BeforeCard w k f.body number →
    w.next = .nextIteration → w.span = some f → (∀ b, w.link ≠ .undefinedForm b) →
    let c := s.readCard number
    let u := s.hasRead w k number
    let g : SpanFrame := { f with exit := some (linkOfWord c.w4) }
    (f.current < s.directorySize →
        exec .spanIteration s =
          .next { u with
            walk := some { w with body := true, phase := .iterating c number, span := some g }
            cache := { s.cache with walkerRequest := some ⟨f.current, .read [0], .spanTest⟩ } })
      ∧ (s.directorySize ≤ f.current → ∃ t, exec .spanIteration s = .next t ∧ u.reaches t w (w.leavesSpan g w.stack)))
  ∧ (∀ (s : State) (w : Walk) (k : Ticket) (f : SpanFrame), s.WalkerReady w k → w.next = .nextIteration → w.span = some f →
    ((∃ b, w.link = .undefinedForm b) →
        ∃ t, exec .spanIteration s = .next t ∧ s.walkStopsAtCard t w .abridged .badLink k.lastCard 0#9)
      ∧ ((∀ b, w.link ≠ .undefinedForm b) → f.body = .null →
        ∃ t, exec .spanIteration s = .next t ∧ s.reaches t w w.endsLevel))
  ∧ ∀ (s : State) (w : Walk) (k : Ticket) (f : SpanFrame) (c : Card) (number : Nat) (q : Request) (ws : List Word)
      (qs : List Nat) (a : BitVec 24),
    q.purpose = .spanTest → s.walk = some w → w.phase = .iterating c number → w.span = some f →
    s.ticket w.slot = some k → k.tallies.length = 17 →
    let t := s.deliver q (.served ws qs) a
    let department := (ws.getD 1 0#32).extractLsb' 8 8
    let start := f.startDepartment.getD department
    let g : SpanFrame := { f with startDepartment := some start }
    let v : Walk := { w with span := some g }
    let ident := (ws.getD 0 0#32).extractLsb' 0 24
    let stays := f.untilDepartment = false ∨ department = start
    let fault := c.exception number .memoryFault f.current 0#24
    (f.untilDepartment = true → department ≠ start → s.reaches t v (v.leavesSpan g w.stack))
      ∧ (stays → ident = 0#24 → s.completesCard t v c 5 none)
      ∧ (stays → ident = 0xFFFFFF#24 →
        s.completesCard t v c 4 (some (c.exception number .badTarget f.current ident)))
      ∧ (stays → ident ≠ 0#24 → ident ≠ 0xFFFFFF#24 → s.actsOnCard t v k c number)
      ∧ (f.untilDepartment = true → f.startDepartment = none →
        ((s.writeException w.slot fault).tallied w.slot 6).reaches (s.deliver q .fault a) w (w.leavesSpan f w.stack))
      ∧ (f.untilDepartment = false ∨ f.startDepartment.isSome = true →
        s.completesCard (s.deliver q .fault a) w c 6 (some fault))

/-- A stalled application is made over: from its record read after a room stall, from its opening question after a turn stall
(R67, R71, R72). That the read after a room stall is made by the opening answer already held is the model's reading (log
23), as are the end of a stalled walk (log 17), the arbiter under HALT (log 21) and a CANCEL's DONE (log 32). -/
def Obligations.StallRetriesAskAgain : Prop :=
  ∀ (s : State) (w : Walk) (app : Application), s.walk = some w →
    (w.phase = .roomStall app true →
        exec .roomStallRetry s =
          .next { s with
            walk := some { w with phase := .reading app }
            cache := { s.cache with
              walkerRequest :=
                some
                  { index := app.index, op := .read (if app.fromEntry then [0, 2] else [0, 1, 3]),
                    purpose := .recordRead } } })
      ∧ (w.phase = .turnStall app true →
        ∃ t, exec .turnStallRetry s = .next t ∧ s.opens t w app.card app.cardNumber app.index)

/-! ## The Directory Cache -/

/-- Set and way of a key are those of the record's set: the lowest INVALID way, or the one the replacement counter names when
none is (R148, R152). -/
def Sys2Proof.Machine.Cache.takesWay (c : Cache) (index key : Nat) : Prop :=
  let first := 4 * (index / 64 % 64)
  (∃ way, way < 4 ∧ key = first + way ∧ assocFind key c.lines = none
      ∧ ∀ v, v < way → (assocFind (first + v) c.lines).isSome = true)
    ∨ ((∀ v, v < 4 → (assocFind (first + v) c.lines).isSome = true) ∧ key = first + c.replacement.toNat)

/-- A request needs a quarter of its record: a read one it lists, a write or an update one that holds a word of it, the count
of a miss Q3 (R12, R149, R153). -/
def Sys2Proof.Machine.CacheOp.needs (op : CacheOp) (q : Nat) : Prop :=
  match op with
  | .read qs => q ∈ qs
  | .write words => ∃ p ∈ words, p.1 / 4 = q
  | .update words => ∃ p ∈ words, p.1 / 4 = q
  | .countMiss => q = 3

/-- The port grants the highest-ranked requester; its miss starts a fill, which takes a way, advances the replacement counter,
moves a DIRTY victim to the push buffer, and reads the lowest-numbered quarter that the request needs first (R149, R150, R151,
R152, R153). -/
def Obligations.PortGrantsStartFills : Prop :=
  ∀ (s : State) (who : Requester) (r : Request) (key : Nat), s.host.active ≠ some .dropAll → s.cache.fill = none →
    s.cache.pushBuffer = none →
    (∀ way, way < 4 → ∀ l, assocFind (4 * (r.index / 64 % 64) + way) s.cache.lines = some l → l.index ≠ r.index) →
    (r.op.isWrite = true → s.isBack r.index = true) → s.cache.takesWay r.index key →
    (who = .airRoster ∧ s.cache.airRequests.head? = some r ∧ s.cache.airAside = false
      ∨ who = .delivery ∧ s.cache.airRequests = [] ∧ s.cache.deliveryRequests.head? = some r
        ∧ s.cache.deliveryAside = false
      ∨ who = .walker ∧ s.cache.airRequests = [] ∧ s.cache.deliveryRequests = [] ∧ s.cache.walkerRequest = some r
        ∧ s.cache.walkerAside = false) →
    ∃ (t : State) (first : Nat), exec .portGrant s = .next t
      ∧ t.cache.fill =
          some { key := key, index := r.index, requester := who, request := some r, first := first, arrived := [] }
      ∧ (∀ q, q < 4 → r.op.needs q → (∀ p, r.op.needs p → q ≤ p) → first = q)
      ∧ t.cache.replacement = s.cache.replacement + 1#2
      ∧ t.cache.lines = assocDrop key s.cache.lines
      ∧ t.cache.pushBuffer = (assocFind key s.cache.lines).filter (fun l => l.dirty != 0#4)
      ∧ t = { s with cache := { s.cache with
          fill := t.cache.fill
          replacement := t.cache.replacement
          lines := t.cache.lines
          pushBuffer := t.cache.pushBuffer
          airRequests := if who = .airRoster then s.cache.airRequests.tail else s.cache.airRequests
          deliveryRequests := if who = .delivery then s.cache.deliveryRequests.tail else s.cache.deliveryRequests
          walkerRequest := if who = .walker then none else s.cache.walkerRequest } }

/-- The request a requester presents: its oldest, unless that is set aside or one of its requests has started the fill in
progress and has not been withdrawn since (R149, R150; that the requester goes on once it is withdrawn is log 51). -/
def Sys2Proof.Machine.Cache.presents (c : Cache) (who : Requester) (r : Request) : Prop :=
  (∀ f, c.fill = some f → f.requester = who → f.request = none)
    ∧ match who with
      | .airRoster => c.airAside = false ∧ c.airRequests.head? = some r
      | .delivery => c.deliveryAside = false ∧ c.deliveryRequests.head? = some r
      | .walker => c.walkerAside = false ∧ c.walkerRequest = some r

/-- The request of the highest-ranked requester that presents one (R149, R150). -/
def Sys2Proof.Machine.Cache.nextGrant (c : Cache) (who : Requester) (r : Request) : Prop :=
  c.presents who r ∧ (who ≠ .airRoster → ∀ x, ¬ c.presents .airRoster x) ∧ (who = .walker → ∀ x, ¬ c.presents .delivery x)

/-- A requester's oldest request is off its queue. -/
def Sys2Proof.Machine.Cache.withoutFront (c : Cache) (who : Requester) : Cache :=
  { c with
    airRequests := if who = .airRoster then c.airRequests.tail else c.airRequests
    deliveryRequests := if who = .delivery then c.deliveryRequests.tail else c.deliveryRequests
    walkerRequest := if who = .walker then none else c.walkerRequest }

/-- A requester's request is set aside (R150). -/
def Sys2Proof.Machine.Cache.marksAside (c : Cache) (who : Requester) : Cache :=
  { c with
    airAside := c.airAside || who == .airRoster
    deliveryAside := c.deliveryAside || who == .delivery
    walkerAside := c.walkerAside || who == .walker }

/-- The words of a record that a request writes: those that a write or an update lists, and word 12 for the count of a miss
(R12, R149). -/
def Sys2Proof.Machine.CacheOp.listed : CacheOp → List Nat
  | .read _ => []
  | .write words => words.map fun p => p.1
  | .update words => words.map fun p => p.1
  | .countMiss => [12]

/-- What a request makes of a word that it writes, from the record's words: a write gives it the value listed; an update gives
the bits of its mask the value listed and keeps the others, as the delivery-state write keeps the unit price and remainder
beside it, and the status write of a reply the rush-window day (R9, R11, R157, R188); the count of a miss raises the
consecutive misses by one, up to 255, and keeps battery, rushing flag and link quality (R12). -/
def Sys2Proof.Machine.CacheOp.makes (op : CacheOp) (ws : List Word) (j : Nat) (x : Word) : Prop :=
  let old := ws.getD j 0#32
  match op with
  | .read _ => False
  | .write words => (j, x) ∈ words
  | .update words =>
    ∃ mask value : Word, (j, mask, value) ∈ words
      ∧ ∀ b, b < 32 → x.getLsbD b = if mask.getLsbD b then value.getLsbD b else old.getLsbD b
  | .countMiss =>
    j = 12 ∧ (x.extractLsb' 16 8).toNat = min 255 ((old.extractLsb' 16 8).toNat + 1)
      ∧ x.extractLsb' 0 5 = old.extractLsb' 0 5 ∧ x.extractLsb' 8 8 = old.extractLsb' 8 8

/-- The RAM after a push of a line: its one dirty quarter, or all four when several are dirty, each word with fresh parity, and
every other byte and parity mark as it was (R154, R171). -/
def Sys2Proof.Machine.State.pushes (s : State) (m : Ram) (l : Line) : Prop :=
  let several := ∃ p q, p < 4 ∧ q < 4 ∧ p ≠ q ∧ l.dirty.getLsbD p = true ∧ l.dirty.getLsbD q = true
  let pushed := fun q : Nat => several ∨ l.dirty.getLsbD q = true
  (∀ j, j < 16 → pushed (j / 4) →
      m.word (s.recordOffset l.index j) = l.words.getD j 0#32 ∧ m.faulty (s.recordOffset l.index j) = false)
    ∧ ∀ x, (∀ j, j < 16 → pushed (j / 4) → x / 4 ≠ s.recordOffset l.index j / 4) →
      m.byte x = s.ram.byte x ∧ m.faulty x = s.ram.faulty x

/-- The accesses the Host Link held are answered, oldest first, as they would be if they arrived now (R163). -/
def Sys2Proof.Machine.State.answersHeld (s : State) : List HostAccess → State → Prop
  | [], t => t = s
  | .read a :: rest, t => ∃ u, exec (.snoopRead a) s = .next u ∧ u.answersHeld rest t
  | .write a w :: rest, t => ∃ u, exec (.snoopWrite a w) s = .next u ∧ u.answersHeld rest t

/-- A granted read that hits changes neither line nor RAM. A write or update that hits gives each word it lists its value, an
update the bits of its mask alone, and leaves every other word (R9, R11, R12, R188): under BACK the line takes the words and
its quarters' marks, and RAM stays; under THROUGH line and RAM take them, RAM with fresh parity, and no mark is set (R151,
R157, R158, R159, R171). The port's grant serves a hit on its line and answers it; a write miss under THROUGH goes to RAM
alone, which while a fill of another record runs is the model's reading (log 50); a request for the record being filled or
buffered, and any other miss while a fill runs, are set aside (R150, R151; log 51 for a requester whose fill's request was
withdrawn). With no request presented, the sweeper of PUSH_ALL, or of the push of a RELOAD, pushes the next push-pending line,
in order of set and way. With the last one PUSH_ALL gives DONE; a RELOAD makes every way INVALID and the replacement counter 0,
and reads the header next, unless a fill is still in progress (R154, R165, R166, R169, R180; log 49 for that push beside a
fill). -/
def Obligations.HitsFollowTheWritePolicy : Prop :=
  (∀ (s : State) (key : Nat) (l : Line) (op : CacheOp), l.words.length = 16 → (∀ j ∈ op.listed, j < 16) →
    op.listed.Nodup → s.ram.wf = true → s.directoryBase % 4 = 0 →
    let t := s.serveOnLine key l op
    (op.listed = [] → t = s)
      ∧ (op.listed ≠ [] →
        ∃ l' : Line, t.cache = { s.cache with lines := assocPut key l' s.cache.lines }
          ∧ t = { s with ram := t.ram, cache := t.cache }
          ∧ (∀ j ∈ op.listed, ∃ x, op.makes l.words j x ∧ l'.words[j]? = some x)
          ∧ (∀ j, j ∉ op.listed → l'.words[j]? = l.words[j]?)
          ∧ l'.index = l.index ∧ l'.pushPending = l.pushPending
          ∧ (s.isBack l.index = true → t.ram = s.ram
            ∧ ∀ q, q < 4 → (l'.dirty.getLsbD q = true ↔ l.dirty.getLsbD q = true ∨ ∃ j ∈ op.listed, j / 4 = q))
          ∧ (s.isBack l.index = false → l'.dirty = l.dirty
            ∧ (∀ j ∈ op.listed,
              l'.words[j]? = some (t.ram.word (s.recordOffset l.index j))
                ∧ t.ram.faulty (s.recordOffset l.index j) = false)
            ∧ ∀ x, (∀ j ∈ op.listed, x / 4 ≠ s.recordOffset l.index j / 4) →
              t.ram.byte x = s.ram.byte x ∧ t.ram.faulty x = s.ram.faulty x)))
  ∧ (∀ (s : State) (who : Requester) (r : Request), s.host.active ≠ some .dropAll → s.cache.nextGrant who r →
    let way := fun v : Nat => assocFind (4 * (r.index / 64 % 64) + v) s.cache.lines
    let busy := (∃ f, s.cache.fill = some f ∧ f.index = r.index) ∨ ∃ l, s.cache.pushBuffer = some l ∧ l.index = r.index
    let missed := ∀ v, v < 4 → ∀ l, way v = some l → l.index ≠ r.index
    let popped := fun u : State => { u with cache := u.cache.withoutFront who }
    (busy ∨ missed ∧ s.cache.fill.isSome = true ∧ (r.op.isWrite = true → s.isBack r.index = true) →
        exec .portGrant s = .next { s with cache := s.cache.marksAside who })
      ∧ (∀ v l, ¬ busy → v < 4 → way v = some l → l.index = r.index → (∀ x, x < v → ∀ l', way x = some l' → l'.index ≠ r.index) →
        exec .portGrant s =
          .next ((popped (s.serveOnLine (4 * (r.index / 64 % 64) + v) l r.op)).deliver r (.served l.words [0, 1, 2, 3]) 0#24))
      ∧ ∀ words, ¬ busy → missed → r.op = .write words → s.isBack r.index = false →
        exec .portGrant s =
          .next ((popped { s with ram := words.foldl (fun m p => m.setWord (s.recordOffset r.index p.1) p.2) s.ram }).deliver r
            (.served [] []) 0#24))
  ∧ ∀ (s : State) (place key : Nat) (l : Line),
    s.host.active = some .pushAll ∧ s.loader = .idle ∨ s.host.active = some .reload ∧ s.loader = .pushing →
    (∀ who r, ¬ s.cache.presents who r) → s.cache.sweeper = some place → rising s.cache.lines = true →
    assocFind key s.cache.lines = some l → l.pushPending = true → s.ram.wf = true → s.directoryBase % 4 = 0 →
    (∀ p ∈ s.cache.lines, p.2.pushPending = true → place ≤ key ∧ (place ≤ p.1 → key ≤ p.1) ∨ p.1 < place ∧ key ≤ p.1) →
    let lines := assocPut key { l with dirty := 0#4, pushPending := false } s.cache.lines
    let more := (∃ p ∈ lines, p.2.pushPending = true) ∨ ∃ b, s.cache.pushBuffer = some b ∧ b.pushPending = true
    ∃ t : State, exec .portGrant s = .next t ∧ s.pushes t.ram l
      ∧ (more ∨ s.loader = .pushing ∧ s.cache.fill.isSome = true →
        t = { s with ram := t.ram, cache := { s.cache with lines := lines, sweeper := some (key + 1) } })
      ∧ (¬ more → s.loader = .pushing → s.cache.fill = none →
        t = { s with
          ram := t.ram
          loader := .checking
          cache := { s.cache with lines := [], replacement := 0#2, sweeper := none } })
      ∧ (¬ more → s.loader = .idle →
        t = { s with
          ram := t.ram
          cache := { s.cache with lines := lines, sweeper := none }
          host := { s.host with active := none, lastResult := .done } })

/-- The cache commands that waited for the end of a fill, which has come: PUSH_ALL gives DONE when nothing is push-pending;
DROP_ALL makes every way INVALID and gives DONE; the push of a load is over when nothing is push-pending, with every way
INVALID and the replacement counter 0 (R165, R167, R169, R180). -/
def Sys2Proof.Machine.State.cacheCommandsEnd (s : State) : State :=
  let waits := (s.cache.lines.any fun p => p.2.pushPending) || s.cache.pushBuffer.any fun l => l.pushPending
  if s.host.active = some .pushAll then
    if waits then s else { s with host := s.host.commandDone, cache := { s.cache with sweeper := none } }
  else if s.host.active = some .dropAll then { s with host := s.host.commandDone, cache := { s.cache with lines := [] } }
  else if s.loader = .pushing then
    if waits then s
    else { s with loader := .checking, cache := { s.cache with lines := [], replacement := 0#2, sweeper := none } }
  else s

/-- A word of the record that a fill brings in: from the line read buffer where its quarter has arrived, rising from the first
quarter read and wrapping from Q3 to Q0, else from RAM (R153). -/
def Sys2Proof.Machine.State.fillWord (s : State) (f : Fill) (j : Nat) : Word :=
  let place := (j / 4 + 4 - f.first) % 4
  if place < f.arrived.length then (f.arrived.getD place []).getD (j % 4) 0#32 else s.ram.word (s.recordOffset f.index j)

/-- A word of the record that the fill has still to read, and that meets a parity fault (R153, R155). -/
def Sys2Proof.Machine.State.fillFaults (s : State) (f : Fill) (j : Nat) : Prop :=
  f.arrived.length ≤ (j / 4 + 4 - f.first) % 4 ∧ s.ram.faulty (s.recordOffset f.index j) = true

/-- A fill whose record reads without fault, however much of it has been read already, installs it CLEAN, serves its starting
request on the line, and pushes the record in the push buffer: its one dirty quarter, or all four, with fresh parity and every
other byte and parity mark as it was. Set-aside requests wait
again, a command that waited for the fill goes on, the accesses the Host Link held are answered, and the starting request,
unless it was withdrawn, is answered with the record as read (R150, R153, R154, R158, R159, R163, R165, R167, R169; that
several held accesses are answered then, oldest first, is log 13). -/
def Obligations.FillsInstallAndPush : Prop :=
  ∀ (s : State) (f : Fill), s.cache.fill = some f → f.first < 4 → (∀ j, j < 16 → ¬ s.fillFaults f j) →
    (s.loader = .pushing → s.host.active = some .reload) → s.ram.wf = true → s.directoryBase % 4 = 0 →
    let line : Line :=
      { index := f.index, words := (List.range 16).map (s.fillWord f), dirty := 0#4, pushPending := false }
    let installed : State := { s with cache := { s.cache with lines := assocPut f.key line s.cache.lines } }
    let served := match f.request with | none => installed | some r => installed.serveOnLine f.key line r.op
    ∃ v x : State, v.cacheCommandsEnd.answersHeld s.host.held x
      ∧ exec .fillInstall s =
        .next (match f.request with | none => x | some r => x.deliver r (.served line.words [0, 1, 2, 3]) 0#24)
      ∧ v = { served with
          ram := v.ram
          host := { s.host with held := [] }
          cache := { served.cache with
            pushBuffer := none
            fill := none
            airAside := false
            deliveryAside := false
            walkerAside := false } }
      ∧ (s.cache.pushBuffer = none → v.ram = served.ram)
      ∧ ∀ l, s.cache.pushBuffer = some l → served.pushes v.ram l

/-- A fill that meets a parity fault is abandoned: a DIRTY victim goes back into its way, MEMORY_FAULT is latched, and the
incoming record is not installed. A starting read is answered from the line read buffer when the quarters it needs have
arrived, in rising order from its first; any other starting request receives MEMORY_FAULT; a command that waited for the
fill goes on, and the accesses the Host Link held are answered (R70, R153, R155, R156, R163, R165, R167, R169; that several
are answered then, oldest first, is log 13). -/
def Obligations.AbandonedFillsRestoreTheVictim : Prop :=
  ∀ (s : State) (f : Fill), s.cache.fill = some f → f.first < 4 → (∃ j, j < 16 ∧ s.fillFaults f j) →
    (s.loader = .pushing → s.host.active = some .reload) →
    let v : State :=
      { s with
        host := { s.host with held := [], attention := s.host.attention ||| 0x010#9 }
        cache := { s.cache with
          lines := (match s.cache.pushBuffer with | none => s.cache.lines | some l => assocPut f.key l s.cache.lines)
          pushBuffer := none
          fill := none
          airAside := false
          deliveryAside := false
          walkerAside := false } }
    let reads := fun q : Nat => ∀ m, m < 4 → ¬ s.fillFaults f (4 * q + m)
    let arrived := fun q : Nat => ∃ k, k < 4 ∧ (f.first + k) % 4 = q ∧ ∀ i, i ≤ k → reads ((f.first + i) % 4)
    ∃ (x : State) (ident : BitVec 24), v.cacheCommandsEnd.answersHeld s.host.held x
      ∧ (arrived 0 → ident = (s.fillWord f 0).extractLsb' 0 24) ∧ (¬ arrived 0 → ident = 0#24)
      ∧ (f.request = none → exec .fillAbandon s = .next x)
      ∧ ∀ r, f.request = some r →
        (∀ qs, r.op = .read qs → (∀ q ∈ qs, arrived q) →
            ∃ (words : List Word) (quarters : List Nat),
              exec .fillAbandon s = .next (x.deliver r (.served words quarters) ident)
                ∧ (∀ q, q ∈ quarters ↔ arrived q)
                ∧ ∀ q m, arrived q → m < 4 → words.getD (4 * q + m) 0#32 = s.fillWord f (4 * q + m))
          ∧ ((∀ qs, r.op = .read qs → ∃ q ∈ qs, ¬ arrived q) → exec .fillAbandon s = .next (x.deliver r .fault ident))

/-! ## The Loader -/

/-- The checks of a load: the first check of R181 that fails, then a parity fault in the settings block, then a channel above
15, ends the load in LOAD_FAULT with its code, and nothing of RAM or of the previous load's values changes (R179, R181,
R182, R183; that the parity fault comes before the channel is the model's choice, log 54). -/
def Obligations.HeaderFaultsEndTheLoad : Prop :=
  ∀ s : State, s.host.runState = .loading → s.loader = .checking →
    let w := fun off => s.ram.word off
    let n := fun off => (s.ram.word off).toNat
    let readable := ∀ j < 16, s.ram.faulty (4 * j) = false
    let inRange :=
      n 8 % 4096 = 0 ∧ n 8 + 4096 ≤ 4194304 ∧ n 12 % 65536 = 0 ∧ n 16 % 64 = 0 ∧ 64 ≤ n 16 ∧ n 16 ≤ 16384
        ∧ n 12 + 64 * n 16 ≤ 4194304 ∧ n 20 % 64 = 0 ∧ n 20 + 64 ≤ 4194304
    let apart := fun a la b lb : Nat => a + la ≤ b ∨ b + lb ≤ a
    let d := 64 * n 16
    let disjoint :=
      apart 0 64 (n 8) 4096 ∧ apart 0 64 (n 12) d ∧ apart 0 64 (n 20) 64 ∧ apart (n 8) 4096 (n 12) d
        ∧ apart (n 8) 4096 (n 20) 64 ∧ apart (n 12) d (n 20) 64
    let settingsReadable := ∀ j < 16, s.ram.faulty (n 20 + 4 * j) = false
    let ends := fun (code : LoadFaultCode) (causes : BitVec 9) =>
      exec .loadCheck s =
        .next { s with
          loader := .idle
          host := { s.host with
            runState := .loadFault
            loadFault := code
            lastCommand := 3#4
            lastResult := .done
            active := none
            attention := s.host.attention ||| causes } }
    (¬ readable → ends .memory 0x012#9)
      ∧ (readable → w 0 ≠ 0x41805A5A#32 → ends .badSignature 0x002#9)
      ∧ (readable → w 0 = 0x41805A5A#32 → w 4 ≠ 1#32 → ends .badLayout 0x002#9)
      ∧ (readable → w 0 = 0x41805A5A#32 → w 4 = 1#32 → ¬ inRange → ends .badRange 0x002#9)
      ∧ (readable → w 0 = 0x41805A5A#32 → w 4 = 1#32 → inRange → ¬ disjoint → ends .overlap 0x002#9)
      ∧ (readable → w 0 = 0x41805A5A#32 → w 4 = 1#32 → inRange → disjoint →
        (¬ settingsReadable → ends .memory 0x012#9)
          ∧ (settingsReadable → 15 < ((w (n 20)).extractLsb' 16 8).toNat → ends .badChannel 0x002#9))

/-- A load with an accepted header, readable settings, a channel of at most 15 and a board with no word to act on ends in
HALTED with header and settings in effect, and the live rush state is that of the new window (R27, R179, R182, R183). -/
def Obligations.LoadsPutSettingsInEffect : Prop :=
  ∀ s : State, s.host.runState = .loading → s.loader = .checking → (∀ j < 16, s.ram.faulty (4 * j) = false) →
    s.readHeader.faultCode = .none →
    let n := fun off => (s.ram.word off).toNat
    let b := n 20
    (∀ j < 16, s.ram.faulty (b + 4 * j) = false) → ((s.ram.word b).extractLsb' 16 8).toNat ≤ 15 →
    (∀ j < 32, s.ram.faulty (n 8 + 128 * j) = false
      ∧ (s.ram.word (n 8 + 128 * j) = 0#32 ∨ s.ram.word (n 8 + 128 * j) = 1#32 ∨ s.ram.word (n 8 + 128 * j) = 5#32)) →
    ∃ t l, exec .loadCheck s = .next t ∧ t.load = some l
      ∧ l.boardBase = n 8 ∧ l.directoryBase = n 12 ∧ l.directorySize = n 16 ∧ l.settingsBase = b
      ∧ l.cellCode = (s.ram.word b).extractLsb' 0 16 ∧ l.channel = ((s.ram.word b).extractLsb' 16 8).toNat
      ∧ (let a := ((s.ram.word b).extractLsb' 24 8).toNat
        l.attemptLimit = if a = 0 then 1 else if 15 < a then 15 else a)
      ∧ (let i := ((s.ram.word (b + 4)).extractLsb' 0 16).toNat
        l.sweepInterval = if i < 100 then 100 else if 5000 < i then 5000 else i)
      ∧ l.batteryFloor = (s.ram.word (b + 4)).extractLsb' 16 4
      ∧ l.rushStart = n (b + 8) ∧ l.rushEnd = n (b + 12) ∧ l.policy = (s.ram.word (b + 16)).extractLsb' 0 16
      ∧ t.loader = .idle
      ∧ t.host = { s.host with
          runState := .halted
          loadFault := .none
          lastCommand := 3#4
          lastResult := .done
          active := none
          attention := s.host.attention ||| 0x001#9 }
      ∧ t = { s with load := t.load, loader := .idle, host := t.host, time := { s.time with liveRush := t.time.liveRush } }
      ∧ (let first := n (b + 8)
        let last := n (b + 12)
        let u := s.time.storeTime.toNat % 86400
        let d := s.time.storeTime.toNat / 86400
        (s.time.timeSet = false ∨ 86400 ≤ first ∨ 86400 ≤ last ∨ first = last → t.time.liveRush = .closed)
          ∧ (s.time.timeSet = true → first < last → last < 86400 →
            t.time.liveRush = if first ≤ u ∧ u < last then .openDay d else .closed)
          ∧ (s.time.timeSet = true → last < first → first < 86400 →
            t.time.liveRush =
              if first ≤ u then .openDay d else if u < last ∧ 1 ≤ d then .openDay (d - 1) else .closed))

/-! ## The Price Engine -/

/-- Every new image holds a primary of 1 to 9,999,999, and a partner and unit price that are absent or in the same range
(R101). -/
def Obligations.NewImagesStayInThePriceRange : Prop :=
  ∀ (i : EngineInput) (im : Image) (clamped : Bool) (raw : Int), i.kind.targeting = true →
    i.card.operandsInRange i.kind = true → evaluate i = .newImage im clamped raw →
    (1 ≤ im.primary ∧ im.primary ≤ 9999999) ∧ im.partner ≤ 9999999 ∧ im.unit ≤ 9999999

/-- What the engine answers. An adjustment passes raw result, ceiling, ending and floor, on the primary and, with the twin
flag, on a partner that is present; a PRICE card sets primary and partner outright; both compute the unit price from the new
primary; CLAMPED tells of a ceiling, a floor or a unit price held (R88 to R96). A BADGE card sets, clears and toggles, when its
test matches (R97). BAD_BASE, a failed guard and an image that stays as it is have answers of their own (R85, R87, R98, R99,
R100). -/
def Obligations.AdjustmentsPassFourStages : Prop :=
  ∀ i : EngineInput, i.card.operandsInRange i.kind = true →
    let price := fun p : Nat => min 9999999 p
    let working : Image :=
      { primary := price i.working.primary, partner := if i.panel then price i.working.partner else 0,
        unit := price i.working.unit, badges := i.working.badges }
    let reference : Nat :=
      match i.basis with | .none => 0 | .per100g | .per100ml => 100 | .perKg | .perL => 1000 | .perPiece => 1
    let perUnit := fun p : Nat => (p * reference + i.net / 2) / i.net
    let noUnit := i.basis = .none ∨ i.net = 0
    let unit := fun p : Nat =>
      if noUnit then 0 else if 9999999 < perUnit p then 9999999 else if perUnit p = 0 then 1 else perUnit p
    let unitHeld := fun p : Nat => ¬ noUnit ∧ 9999999 < perUnit p
    let twin := i.card.w0.getLsbD 12
    let guard := (i.card.w0.extractLsb' 10 2).toNat
    let fails := fun p : Nat => guard = 1 ∧ working.primary ≤ p ∨ guard = 2 ∧ p ≤ working.primary
    let answers := fun (new : Image) (clamps : Prop) (r : Int) =>
      (fails new.primary → evaluate i = .notApplied) ∧ (¬ fails new.primary → new = working → evaluate i = .same)
        ∧ (¬ fails new.primary → new ≠ working →
          ∃ clamped, evaluate i = .newImage new clamped r ∧ (clamped = true ↔ clamps))
    let raw := fun p : Nat =>
      if i.kind = .adjustPercent then ((p : Int) * (10000 + i.card.w8.toInt) + 5000) / 10000 else (p : Int) + i.card.w8.toInt
    let ending := i.card.w12
    let floor : Int := max 1 i.card.w16.toNat
    let carried := fun p : Nat => min (raw p) 9999999
    let candidate := fun p : Nat =>
      if ending = 0xFFFFFFFF#32 then carried p else carried p - (carried p - ending.toNat) % 100
    let floored := fun p : Nat =>
      ending != 0xFFFFFFFF#32 && decide (carried p < ending.toNat) || decide (candidate p < floor) || decide (raw p < floor)
    let adjusted := fun p : Nat => (if floored p then floor else candidate p).toNat
    let clamps := fun p : Nat => floored p = true ∨ 9999999 < raw p
    (i.kind = .adjustPercent ∨ i.kind = .adjustAmount →
        (working.primary = 0 → evaluate i = .badBase)
          ∧ (working.primary ≠ 0 →
            let p := adjusted working.primary
            let twins := twin = true ∧ working.partner ≠ 0
            answers
              { primary := p
                partner := if twin && working.partner != 0 then adjusted working.partner else working.partner
                unit := unit p
                badges := working.badges }
              (clamps working.primary ∨ twins ∧ clamps working.partner ∨ unitHeld p) (raw working.primary)))
      ∧ (i.kind = .price →
        let p := i.card.w8.toNat
        answers
          { primary := p
            partner :=
              if i.panel = false then 0
              else if twin = false ∨ i.card.w12 = 0xFFFFFFFF#32 then working.partner
              else i.card.w12.toNat
            unit := unit p
            badges := working.badges }
          (unitHeld p) p)
      ∧ (i.kind = .badge →
        let b := working.badges
        let matched := b &&& i.card.w8.extractLsb' 24 8 = i.card.w12.extractLsb' 0 8
        let new : Image :=
          { working with
            badges := ((b ||| i.card.w8.extractLsb' 0 8) &&& ~~~ i.card.w8.extractLsb' 8 8) ^^^ i.card.w8.extractLsb' 16 8 }
        (working.primary = 0 ∨ ¬ matched → evaluate i = .notApplied)
          ∧ (working.primary ≠ 0 → matched → new = working → evaluate i = .same)
          ∧ (working.primary ≠ 0 → matched → new ≠ working → evaluate i = .newImage new false working.primary))

/-- The digit string of a price has seven positions, position p + 1 holding the digit of M div 10^(6 − p), or BLANK in the
first four positions while only zeros have come; an absent unit price is seven BLANKs (R102). -/
def Obligations.DigitStringsBlankLeadingZeros : Prop :=
  (∀ m, m ≤ 9999999 →
      (digitString m).length = 7
        ∧ (∀ p, p < 7 → (digitString m)[p]? = some (if p < 4 ∧ m / 10 ^ (6 - p) = 0 then 15 else m / 10 ^ (6 - p) % 10))
        ∧ ∀ d ∈ digitString m, d ≤ 9 ∨ d = 15)
    ∧ (∀ m, 0 < m → unitDigitString m = digitString m) ∧ unitDigitString 0 = List.replicate 7 15

/-! ## Encodings, schedule and versions -/

/-- A walk context fits its resume area: the include stack holds at most four entries, the span frame's numbers lie in the
ranges of R187 (what becomes of a current index past them is the model's choice, log 53), and the card to be repeated is the
span's body when it stands at the body link and at the span's depth, by which the model tells it apart (log 39). -/
def Sys2Proof.Machine.Walk.fits (w : Walk) : Prop :=
  w.stack.length ≤ 4 ∧ (w.next = .nextIteration → w.span.isSome = true)
    ∧ w.body = (w.next == .repeatCard && w.span.any fun f => w.stack.length == f.depth && w.link == f.body)
    ∧ ∀ f, w.span = some f →
      f.start < 2 ^ 14 ∧ f.remaining < 2 ^ 13 ∧ f.stride < 2 ^ 7 ∧ f.current < 2 ^ 15 ∧ f.depth < 2 ^ 3

/-- A read at a link that ends the walk ABRIDGED: a bad link, before anything is counted; a card limit reached, before the card
is read; a card that reads with a parity fault, once counted, in a part that is loaded as every RUNNING one is (R60, R62, R83,
R178; the stop card of a repeated or faulted card is log 20). Without a load the board would have no place apart from the
cards, and that a RUNNING part holds one is an invariant (O58). -/
def Sys2Proof.Machine.State.readsEnd (s : State) (w : Walk) (k : Ticket) (l : Link)
    (answer : Host.Outcome State Fault Refusal) : Prop :=
  let counted := w.next ≠ .repeatCard
  let ends := fun (u : State) (r : Reason) (stop : Option Nat) (causes : BitVec 9) =>
    ∃ t, answer = .next t ∧ u.walkStopsAtCard t w .abridged r stop causes
  (s.resolveLink k.chainBase l = .bad → ends s .badLink k.lastCard 0#9)
    ∧ ∀ m, s.resolveLink k.chainBase l = .card m →
      (counted → k.cardLimit ≤ (k.count 0).toNat → ends s .runaway k.lastCard 0#9)
        ∧ (s.loadHeld = true → (counted → (k.count 0).toNat < k.cardLimit) →
          (∃ j, j < 8 ∧ s.ram.faulty (32 * m + 4 * j) = true) → ends (s.hasRead w k m) .memory (some m) 0x010#9)

/-- A walk context takes its places in the resume area, and a walk resumed from the eight words that parking it wrote is that
walk, with no request held (R43, R44, R61, R187; log 39 for the body, log 24 for unused link bits). At the boundary after a
card, shown for a MARK, a held parking request parks the walk when an URGENT ticket is QUEUED, and lapses when none is (R42,
R63). The other ends of a walk: the reads that end it, an INCLUDE too deep or to a bad link, and the end of the outermost
level, at the card of a NULL link, with O42 for a current link of form code 3 at an iteration (R60, R62, R75, R76, R80, R83;
log 19 for NULL links, log 20 for stop cards; log 17 for an end request held there, log 32 for a CANCEL). -/
def Obligations.WalkContextsSurviveParking : Prop :=
  (∀ (n : Nat) (w : Walk), w.fits →
    let a := fun j => w.resumeWords.getD j 0#32
    walkOfResume n w.resumeWords =
        { w with slot := n, parkRequest := false, endRequest := none, fresh := false, phase := .ready }
      ∧ w.resumeWords.length = 8 ∧ linkOfWord (a 0) = w.link
      ∧ (a 0).extractLsb' 19 2 = (match w.next with | .nextCard => 0#2 | .repeatCard => 1#2 | .nextIteration => 2#2)
      ∧ ((a 0).extractLsb' 21 3).toNat = w.stack.length ∧ (a 0).getLsbD 24 = w.span.isSome
      ∧ (∀ j, j < w.stack.length → some (linkOfWord (a (j + 1))) = w.stack.reverse[j]?)
      ∧ ∀ f, w.span = some f →
        ((a 0).extractLsb' 25 3).toNat = f.depth ∧ (a 0).getLsbD 28 = f.untilDepartment
          ∧ (a 0).getLsbD 29 = f.startDepartment.isSome ∧ (a 0).getLsbD 30 = f.exit.isSome
          ∧ ((a 1).extractLsb' 19 13).toNat = f.remaining ∧ linkOfWord (a 5) = f.body
          ∧ ((a 5).extractLsb' 19 7).toNat = f.stride ∧ (∀ l, f.exit = some l → linkOfWord (a 6) = l)
          ∧ (∀ d, f.startDepartment = some d → (a 6).extractLsb' 19 8 = d)
          ∧ ((a 7).extractLsb' 0 14).toNat = f.start ∧ ((a 7).extractLsb' 14 15).toNat = f.current)
  ∧ (∀ (s : State) (w : Walk) (k : Ticket) (number : Nat), s.BeforeCard w k w.link number → w.next ≠ .nextIteration →
    w.body = false → w.endRequest = none → w.parkRequest = true → rising s.unit.tickets = true →
    let c := s.readCard number
    let next := linkOfWord c.w4
    let u := s.hasRead w k number
    let j := { k.hasRead (w.next != .repeatCard) number with progressMark := c.w8 }
    let marked : State :=
      { u with
        ram := u.ram.setWord (s.ticketOffset w.slot 16) c.w8
        unit := { s.unit with tickets := assocPut w.slot j s.unit.tickets } }
    (c.w0.extractLsb' 0 8).toNat = 7 → next ≠ .null →
    (¬ s.urgentWaits → exec .cardRead s = .next { marked with walk := some { w.goesOnAt next with parkRequest := false } })
      ∧ (s.urgentWaits → ∃ t, exec .cardRead s = .next t ∧ (marked.parksWalk (w.goesOnAt next) j).arbitrates t))
  ∧ ∀ (s : State) (w : Walk) (k : Ticket), s.WalkerReady w k →
    (w.next ≠ .nextIteration →
        s.readsEnd w k w.link (exec .cardRead s)
          ∧ ∀ number, s.BeforeCard w k w.link number → w.body = false →
            let c := s.readCard number
            let code := (c.w0.extractLsb' 0 8).toNat
            let ends := fun (o : TicketOutcome) (r : Reason) (stop : Option Nat) =>
              ∃ t, exec .cardRead s = .next t ∧ (s.hasRead w k number).walkStopsAtCard t w o r stop 0#9
            (code = 6 → 4 ≤ w.stack.length → ends .abridged .depth (some number))
              ∧ (code = 6 → w.stack.length < 4 → s.resolveLink k.chainBase (linkOfWord c.w8) = .bad →
                ends .abridged .badLink (some number))
              ∧ (code = 8 → w.stack = [] → ends .complete .none none)
              ∧ (code = 6 → w.stack = [] → linkOfWord c.w8 = .null → linkOfWord c.w4 = .null → ends .complete .none none))
      ∧ ∀ f, w.next = .nextIteration → w.span = some f → (∀ b, w.link ≠ .undefinedForm b) →
        s.readsEnd w k f.body (exec .spanIteration s)
          ∧ ∀ number, s.BeforeCard w k f.body number → s.directorySize ≤ f.current →
            linkOfWord (s.readCard number).w4 = .null → (∀ l ∈ w.stack, l = .null) →
            ∃ t, exec .spanIteration s = .next t
              ∧ (s.hasRead w k number).walkStopsAtCard t w .complete .none none 0#9

/-- Wake slot and phase are the bit reversals of R15 and R16, and outside rush a label is counted as listening exactly once in
every 2^n cycles (R15, R16, R26). -/
def Obligations.WakePlacesAreBitReversals : Prop :=
  ∀ i : Nat,
    wakeSlot i < 64 ∧ (∀ k, k < 6 → (wakeSlot i).testBit k = i.testBit (5 - k))
      ∧ (∀ j, wakeSlot i = wakeSlot j ↔ i % 64 = j % 64)
      ∧ ∀ n, n ≤ 5 →
        wakePhase i n < 2 ^ n ∧ (∀ k, k < n → (wakePhase i n).testBit k = (i / 64).testBit (n - 1 - k))
          ∧ ∀ (e : Entry) (c : Nat), e.exponent = n → e.phase = wakePhase i n → e.rushing = false →
            ∃ k, k < 2 ^ n ∧ e.listensIn (BitVec.ofNat 16 (c + k)) = true
              ∧ ∀ j, j < 2 ^ n → e.listensIn (BitVec.ofNat 16 (c + j)) = true → j = k

/-- Newness on the circle of versions, the numbering of staged versions, and the label that displays a version not older than
the one offered (R14). -/
def Obligations.VersionsCompareOnACircle : Prop :=
  (∀ v d : BitVec 16, newerVersion v d = true ↔ 1 ≤ (v - d).toNat ∧ (v - d).toNat ≤ 32767)
    ∧ (∀ v : BitVec 16, nextVersion v = if v = 0xFFFF#16 then 1#16 else v + 1#16)
    ∧ (∀ v d : BitVec 16, v - d = 0x8000#16 → newerVersion v d = false ∧ newerVersion d v = false)
    ∧ (∀ v : BitVec 16, newerVersion v v = false)
    ∧ (∀ (s : State) (i : Nat) (cls : TicketClass) (d v : BitVec 16), s.entry i = none →
      s.enterAnswer i false cls d = .accepted v → v = nextVersion d)
    ∧ (∀ (s : State) (i : Nat) (cls : TicketClass) (d v : BitVec 16) (e : Entry), s.entry i = some e →
      s.enterAnswer i true cls d = .accepted v →
      v = if e.state = .waitingUpdate ∧ e.offered = false then e.version else nextVersion e.version)
    ∧ ∀ (l : Label) (im : LabelImage) (q : BitVec 8), l.displayed.version ≠ im.version →
      newerVersion im.version l.displayed.version = false → (l.hearUpdate im q).2.result = .rejected

/-! ## Invariants and whole-machine rules -/

/-- Every step keeps the canonical form of the RAM. -/
def Obligations.StepsKeepTheRamForm : Prop :=
  ∀ s t : State, s.ram.wf = true → step s = .next t → t.ram.wf = true

/-- Every step keeps the map's promise: no directory index has two entries, and a decision held apart from the map names an
index that has none (R107, R108). -/
def Obligations.StepsKeepOneEntryEach : Prop :=
  ∀ s t : State, s.oneEntryEach = true → step s = .next t → t.oneEntryEach = true

/-- Every step keeps the schedule and the radio to the run state: the schedule runs in RUNNING alone, the radio is ACTIVE in
RUNNING alone, the Loader works in LOADING alone, and the restart mark is set in FAULT alone (R24, R127, R143, R178). With
that, every step keeps a HALTED or RUNNING part loaded (R178, R183). -/
def Obligations.StepsKeepTheScheduleToTheRunState : Prop :=
  ∀ s t : State, s.scheduleFollows = true → step s = .next t →
    t.scheduleFollows = true ∧ (s.loadHeld = true → t.loadHeld = true)

/-- The state after power-on reset meets the four invariants. -/
def Obligations.ResetMeetsTheInvariants : Prop :=
  State.reset.ram.wf = true ∧ State.reset.oneEntryEach = true ∧ State.reset.scheduleFollows = true
    ∧ State.reset.loadHeld = true

/-- No command touches the queue, which is the model's own (log 1). A latched cause is cleared by a write of ATTENTION and a
power-on alone; the write clears exactly the causes written as 1 (R176). -/
def Obligations.OnlyTheHostClearsACause : Prop :=
  (∀ (i : Instr) (s t : State), exec i s = .next t → t.pending = s.pending)
    ∧ (∀ (s : State) (v : Word),
      exec (.attentionWrite v) s =
        .next { s with host := { s.host with attention := s.host.attention &&& ~~~ v.extractLsb' 0 9 } })
    ∧ ∀ (i : Instr) (s t : State), i ≠ .powerOnReset → (∀ v, i ≠ .attentionWrite v) →
      (∀ a v, i = .hostWrite a v → a.toNat / 4 ≠ 0xF0000C / 4) → exec i s = .next t →
      s.host.attention &&& t.host.attention = s.host.attention
end

