-- ==== Sys2Proof/Laws/Ops.lean ====
section
/-! SUPPORT. What the lists kept by number and the RAM operations do: what is read after a write, and that every memory
operation keeps the canonical form. -/

namespace Sys2Proof.Machine

/-! ## Lists kept by number -/

section Assoc

variable {α : Type}

@[simp] theorem assocFind_put_self (k : Nat) (v : α) (l : List (Nat × α)) : assocFind k (assocPut k v l) = some v := by
  induction l with
  | nil => simp [assocPut, assocFind]
  | cons p rest ih =>
    obtain ⟨j, w⟩ := p
    simp only [assocPut]
    split
    · simp [assocFind]
    · split
      · simp [assocFind]
      · rename_i h1 h2
        have : j ≠ k := fun h => h2 h.symm
        simp [assocFind, this, ih]

theorem assocFind_put_ne {j k : Nat} (h : j ≠ k) (v : α) (l : List (Nat × α)) :
    assocFind j (assocPut k v l) = assocFind j l := by
  induction l with
  | nil => simp [assocPut, assocFind, Ne.symm h]
  | cons p rest ih =>
    obtain ⟨i, w⟩ := p
    simp only [assocPut]
    split
    · simp [assocFind, Ne.symm h]
    · split
      · rename_i h1 h2
        subst h2
        simp [assocFind, Ne.symm h]
      · simp [assocFind, ih]

theorem assocFind_drop_ne {j k : Nat} (h : j ≠ k) (l : List (Nat × α)) : assocFind j (assocDrop k l) = assocFind j l := by
  induction l with
  | nil => rfl
  | cons p rest ih =>
    obtain ⟨i, w⟩ := p
    simp only [assocDrop]
    split
    · rename_i hi
      subst hi
      simp [assocFind, Ne.symm h]
    · simp [assocFind, ih]

theorem assocFind_of_risingAbove {low j : Nat} {l : List (Nat × α)} (h : risingAbove low l = true) (hj : j ≤ low) :
    assocFind j l = none := by
  induction l generalizing low with
  | nil => rfl
  | cons p rest ih =>
    obtain ⟨i, w⟩ := p
    simp only [risingAbove, Bool.and_eq_true, decide_eq_true_eq] at h
    have hne : i ≠ j := by omega
    simp [assocFind, hne, ih h.2 (by omega)]

theorem risingAbove_mono {a b : Nat} {l : List (Nat × α)} (hab : a ≤ b) (h : risingAbove b l = true) :
    risingAbove a l = true := by
  cases l with
  | nil => rfl
  | cons p rest =>
    simp only [risingAbove, Bool.and_eq_true, decide_eq_true_eq] at h ⊢
    exact ⟨by omega, h.2⟩

theorem rising_of_risingAbove {low : Nat} {l : List (Nat × α)} (h : risingAbove low l = true) : rising l = true := by
  cases l with
  | nil => rfl
  | cons p rest =>
    simp only [risingAbove, Bool.and_eq_true] at h
    exact h.2

theorem assocFind_drop_self_above {low k : Nat} {l : List (Nat × α)} (h : risingAbove low l = true) :
    assocFind k (assocDrop k l) = none := by
  induction l generalizing low with
  | nil => rfl
  | cons p rest ih =>
    obtain ⟨i, w⟩ := p
    simp only [risingAbove, Bool.and_eq_true, decide_eq_true_eq] at h
    simp only [assocDrop]
    split
    · rename_i hi
      subst hi
      exact assocFind_of_risingAbove h.2 (Nat.le_refl _)
    · rename_i hi
      simp [assocFind, hi, ih h.2]

theorem assocFind_drop_self {k : Nat} {l : List (Nat × α)} (h : rising l = true) : assocFind k (assocDrop k l) = none := by
  cases l with
  | nil => rfl
  | cons p rest =>
    obtain ⟨i, w⟩ := p
    simp only [rising] at h
    simp only [assocDrop]
    split
    · rename_i hi
      subst hi
      exact assocFind_of_risingAbove h (Nat.le_refl _)
    · rename_i hi
      simp [assocFind, hi, assocFind_drop_self_above h]

theorem risingAbove_put {low k : Nat} (v : α) {l : List (Nat × α)} (hk : low < k) (h : risingAbove low l = true) :
    risingAbove low (assocPut k v l) = true := by
  induction l generalizing low with
  | nil => simp [assocPut, risingAbove, hk]
  | cons p rest ih =>
    obtain ⟨i, w⟩ := p
    simp only [risingAbove, Bool.and_eq_true, decide_eq_true_eq] at h
    simp only [assocPut]
    split
    · rename_i h1
      simp [risingAbove, hk, h1, h.2]
    · split
      · rename_i h2
        subst h2
        simp [risingAbove, hk, h.2]
      · simp [risingAbove, h.1, ih (by omega) h.2]

theorem rising_put (k : Nat) (v : α) {l : List (Nat × α)} (h : rising l = true) : rising (assocPut k v l) = true := by
  cases l with
  | nil => rfl
  | cons p rest =>
    obtain ⟨i, w⟩ := p
    simp only [rising] at h
    simp only [assocPut]
    split
    · rename_i h1
      simp [rising, risingAbove, h1, h]
    · split
      · rename_i h2
        subst h2
        simpa [rising] using h
      · simpa [rising] using risingAbove_put v (by omega) h

theorem risingAbove_drop {low : Nat} (k : Nat) {l : List (Nat × α)} (h : risingAbove low l = true) :
    risingAbove low (assocDrop k l) = true := by
  induction l generalizing low with
  | nil => rfl
  | cons p rest ih =>
    obtain ⟨i, w⟩ := p
    simp only [risingAbove, Bool.and_eq_true, decide_eq_true_eq] at h
    simp only [assocDrop]
    split
    · exact risingAbove_mono (by omega) h.2
    · simp [risingAbove, h.1, ih h.2]

theorem rising_drop (k : Nat) {l : List (Nat × α)} (h : rising l = true) : rising (assocDrop k l) = true := by
  cases l with
  | nil => rfl
  | cons p rest =>
    obtain ⟨i, w⟩ := p
    simp only [rising] at h
    simp only [assocDrop]
    split
    · exact rising_of_risingAbove h
    · simpa [rising] using risingAbove_drop k h

theorem all_put {p : Nat × α → Bool} {k : Nat} {v : α} {l : List (Nat × α)} (hv : p (k, v) = true) (h : l.all p = true) :
    (assocPut k v l).all p = true := by
  induction l with
  | nil => simp [assocPut, hv]
  | cons q rest ih =>
    obtain ⟨i, w⟩ := q
    simp only [List.all_cons, Bool.and_eq_true] at h
    simp only [assocPut]
    split
    · simp [hv, h.1, h.2]
    · split
      · simp [hv, h.2]
      · simp [h.1, ih h.2]

theorem all_drop {p : Nat × α → Bool} (k : Nat) {l : List (Nat × α)} (h : l.all p = true) : (assocDrop k l).all p = true := by
  induction l with
  | nil => rfl
  | cons q rest ih =>
    obtain ⟨i, w⟩ := q
    simp only [List.all_cons, Bool.and_eq_true] at h
    simp only [assocDrop]
    split
    · exact h.2
    · simp [h.1, ih h.2]

end Assoc

/-! ## The canonical form -/

theorem Ram.wf_iff (m : Ram) :
    m.wf = true ↔ rising m.bytes = true ∧ (m.bytes.all fun c => decide (c.2 ≠ 0#8)) = true ∧ rising m.parity = true := by
  simp [Ram.wf, and_assoc]

theorem Ram.wf_powerOn (gen : Nat) : (Ram.powerOn gen).wf = true := rfl

theorem Ram.wf_setByte {m : Ram} (h : m.wf = true) (a : Nat) (b : Byte) : (m.setByte a b).wf = true := by
  obtain ⟨h1, h2, h3⟩ := m.wf_iff.mp h
  refine (Ram.wf_iff _).mpr ?_
  by_cases hb : b = 0#8
  · simp only [Ram.setByte, hb, if_pos]
    exact ⟨rising_drop a h1, all_drop a h2, h3⟩
  · simp only [Ram.setByte, hb, if_false]
    exact ⟨rising_put a b h1, all_put (by simp [hb]) h2, h3⟩

theorem Ram.wf_setWord {m : Ram} (h : m.wf = true) (a : Nat) (w : Word) : (m.setWord a w).wf = true := by
  have h4 := Ram.wf_setByte (Ram.wf_setByte (Ram.wf_setByte (Ram.wf_setByte h (wordBase a) (w.extractLsb' 0 8))
    (wordBase a + 1) (w.extractLsb' 8 8)) (wordBase a + 2) (w.extractLsb' 16 8)) (wordBase a + 3) (w.extractLsb' 24 8)
  obtain ⟨h1, h2, h3⟩ := (Ram.wf_iff _).mp h4
  exact (Ram.wf_iff _).mpr ⟨h1, h2, rising_put _ _ h3⟩

theorem Ram.wf_setWords {m : Ram} (h : m.wf = true) (a : Nat) (ws : List Word) : (m.setWords a ws).wf = true := by
  induction ws generalizing m a with
  | nil => exact h
  | cons w rest ih => exact ih (Ram.wf_setWord h a w) (a + 4)

/-! ## Reading after a write -/

theorem Ram.byte_setByte {m : Ram} (h : m.wf = true) (a x : Nat) (b : Byte) :
    (m.setByte a b).byte x = if x = a then b else m.byte x := by
  obtain ⟨h1, -, -⟩ := m.wf_iff.mp h
  by_cases hx : x = a
  · subst hx
    by_cases hb : b = 0#8
    · simp [Ram.byte, Ram.setByte, hb, assocFind_drop_self h1]
    · simp [Ram.byte, Ram.setByte, hb]
  · by_cases hb : b = 0#8
    · simp [Ram.byte, Ram.setByte, hb, hx, assocFind_drop_ne hx]
    · simp [Ram.byte, Ram.setByte, hb, hx, assocFind_put_ne hx]

/-- The byte a word's write leaves at an offset: one of the word's four, or the byte that stood there. -/
theorem Ram.byte_setWord {m : Ram} (h : m.wf = true) (a x : Nat) (w : Word) :
    (m.setWord a w).byte x =
      if x = wordBase a + 3 then w.extractLsb' 24 8
      else if x = wordBase a + 2 then w.extractLsb' 16 8
      else if x = wordBase a + 1 then w.extractLsb' 8 8
      else if x = wordBase a then w.extractLsb' 0 8
      else m.byte x := by
  have h1 := Ram.wf_setByte h (wordBase a) (w.extractLsb' 0 8)
  have h2 := Ram.wf_setByte h1 (wordBase a + 1) (w.extractLsb' 8 8)
  have h3 := Ram.wf_setByte h2 (wordBase a + 2) (w.extractLsb' 16 8)
  rw [← Ram.byte_setByte h, ← Ram.byte_setByte h1, ← Ram.byte_setByte h2, ← Ram.byte_setByte h3]
  rfl

theorem joined_bytes (w : Word) :
    (w.extractLsb' 24 8 ++ w.extractLsb' 16 8 ++ w.extractLsb' 8 8 ++ w.extractLsb' 0 8 : BitVec 32) = w := by
  ext i hi
  simp only [BitVec.getElem_append, BitVec.getElem_extractLsb']
  split
  · simp [BitVec.getLsbD_eq_getElem hi]
  · split
    · rw [BitVec.getLsbD_eq_getElem (by omega)]; congr 1; omega
    · split
      · rw [BitVec.getLsbD_eq_getElem (by omega)]; congr 1; omega
      · rw [BitVec.getLsbD_eq_getElem (by omega)]; congr 1; omega

/-- A word reads as it was written. -/
theorem Ram.word_setWord_self {m : Ram} (h : m.wf = true) (a : Nat) (w : Word) : (m.setWord a w).word a = w := by
  simp only [Ram.word, Ram.byte_setWord h]
  simp [joined_bytes]

/-- A word's write leaves every other word. -/
theorem Ram.word_setWord_ne {m : Ram} (h : m.wf = true) {a x : Nat} (hx : x / 4 ≠ a / 4) (w : Word) :
    (m.setWord a w).word x = m.word x := by
  have hb : ∀ k j, k < 4 → j < 4 → wordBase x + k ≠ wordBase a + j := by
    intro k j hk hj
    simp only [wordBase]
    omega
  simp only [Ram.word, Ram.byte_setWord h]
  simp [hb 3 2, hb 3 1, hb 2 1,
    show wordBase x ≠ wordBase a + 3 from hb 0 3 (by omega) (by omega),
    show wordBase x ≠ wordBase a + 2 from hb 0 2 (by omega) (by omega),
    show wordBase x ≠ wordBase a + 1 from hb 0 1 (by omega) (by omega),
    show wordBase x ≠ wordBase a from hb 0 0 (by omega) (by omega),
    show wordBase x + 1 ≠ wordBase a from hb 1 0 (by omega) (by omega),
    show wordBase x + 2 ≠ wordBase a from hb 2 0 (by omega) (by omega),
    show wordBase x + 3 ≠ wordBase a from hb 3 0 (by omega) (by omega)]

/-- A write leaves the byte of every offset outside its word. -/
theorem Ram.byte_setWord_ne {m : Ram} (h : m.wf = true) {a x : Nat} (hx : x / 4 ≠ a / 4) (w : Word) :
    (m.setWord a w).byte x = m.byte x := by
  have : ∀ j, j < 4 → x ≠ wordBase a + j := by
    intro j hj
    simp only [wordBase]
    omega
  rw [Ram.byte_setWord h]
  simp [this 3, this 2, this 1, show x ≠ wordBase a from this 0 (by omega)]

/-- A write gives its word fresh parity and leaves that of every other word. -/
theorem Ram.faulty_setWord (m : Ram) (a x : Nat) (w : Word) :
    (m.setWord a w).faulty x = if x / 4 = a / 4 then false else m.faulty x := by
  by_cases hx : x / 4 = a / 4
  · simp [Ram.faulty, Ram.setWord, hx]
  · simp [Ram.faulty, Ram.setWord, hx, assocFind_put_ne hx, Ram.setByte]

/-- Every write of a word through the state keeps the canonical form. -/
theorem State.putWord_wf {s : State} (h : s.ram.wf = true) (a : Nat) (w : Word) : (s.putWord a w).ram.wf = true :=
  Ram.wf_setWord h a w

theorem State.reset_ram_wf : State.reset.ram.wf = true := rfl

end Sys2Proof.Machine
end

