-- ==== Sys2Proof/Laws/PerInstr.lean ====
section
/-! SUPPORT. The per-command family `Unspelled`: no word of the table's bits spells the command, since the table gives bits
to no row (98_reader.md). -/

namespace Sys2Proof.Laws

/-- No word spells the command. -/
def Unspelled.Statement (i : Instr) : Prop := ∀ nbits w, decodeTableWord nbits w ≠ some i

/-- The table's decoder answers nothing. -/
theorem decodeTableWord_none (nbits w : Nat) : decodeTableWord nbits w = none := rfl

theorem unspelled (i : Instr) : Unspelled.Statement i := by
  intro nbits w h
  simp [decodeTableWord_none] at h

theorem Unspelled.powerOnReset : Unspelled.Statement (.powerOnReset) := unspelled _
theorem Unspelled.hostRead (addr : BitVec 24) : Unspelled.Statement (.hostRead addr) := unspelled _
theorem Unspelled.hostWrite (addr : BitVec 24) (data : Word) : Unspelled.Statement (.hostWrite addr data) := unspelled _
theorem Unspelled.snoopRead (addr : BitVec 24) : Unspelled.Statement (.snoopRead addr) := unspelled _
theorem Unspelled.snoopWrite (addr : BitVec 24) (data : Word) : Unspelled.Statement (.snoopWrite addr data) := unspelled _
theorem Unspelled.run : Unspelled.Statement (.run) := unspelled _
theorem Unspelled.halt : Unspelled.Statement (.halt) := unspelled _
theorem Unspelled.reload : Unspelled.Statement (.reload) := unspelled _
theorem Unspelled.pushAll : Unspelled.Statement (.pushAll) := unspelled _
theorem Unspelled.dropAll : Unspelled.Statement (.dropAll) := unspelled _
theorem Unspelled.cancel (ticket : BitVec 8) : Unspelled.Statement (.cancel ticket) := unspelled _
theorem Unspelled.radioRestart : Unspelled.Statement (.radioRestart) := unspelled _
theorem Unspelled.undefinedCommand (code : BitVec 4) : Unspelled.Statement (.undefinedCommand code) := unspelled _
theorem Unspelled.nudge (value : Word) : Unspelled.Statement (.nudge value) := unspelled _
theorem Unspelled.attentionWrite (value : Word) : Unspelled.Statement (.attentionWrite value) := unspelled _
theorem Unspelled.attnEnableWrite (value : Word) : Unspelled.Statement (.attnEnableWrite value) := unspelled _
theorem Unspelled.storeTimeWrite (value : Word) : Unspelled.Statement (.storeTimeWrite value) := unspelled _
theorem Unspelled.otherRegisterWrite (value : Word) : Unspelled.Statement (.otherRegisterWrite value) := unspelled _
theorem Unspelled.secondTick : Unspelled.Statement (.secondTick) := unspelled _
theorem Unspelled.ticketExpiry (slot : BitVec 5) : Unspelled.Statement (.ticketExpiry slot) := unspelled _
theorem Unspelled.cycleStart : Unspelled.Statement (.cycleStart) := unspelled _
theorem Unspelled.beaconSense (busy : Bool) : Unspelled.Statement (.beaconSense busy) := unspelled _
theorem Unspelled.slotStart : Unspelled.Statement (.slotStart) := unspelled _
theorem Unspelled.slotSense (busy : Bool) : Unspelled.Statement (.slotSense busy) := unspelled _
theorem Unspelled.turnStart (turn : BitVec 3) : Unspelled.Statement (.turnStart turn) := unspelled _
theorem Unspelled.frameSent : Unspelled.Statement (.frameSent) := unspelled _
theorem Unspelled.replyWindowOpen : Unspelled.Statement (.replyWindowOpen) := unspelled _
theorem Unspelled.replyReceived (frame : List Byte) : Unspelled.Statement (.replyReceived frame) := unspelled _
theorem Unspelled.replyWindowClose : Unspelled.Statement (.replyWindowClose) := unspelled _
theorem Unspelled.slotEnd : Unspelled.Statement (.slotEnd) := unspelled _
theorem Unspelled.keyMonitorTrip : Unspelled.Statement (.keyMonitorTrip) := unspelled _
theorem Unspelled.sweepTimerExpiry : Unspelled.Statement (.sweepTimerExpiry) := unspelled _
theorem Unspelled.sweep : Unspelled.Statement (.sweep) := unspelled _
theorem Unspelled.cardRead : Unspelled.Statement (.cardRead) := unspelled _
theorem Unspelled.spanIteration : Unspelled.Statement (.spanIteration) := unspelled _
theorem Unspelled.roomStallRetry : Unspelled.Statement (.roomStallRetry) := unspelled _
theorem Unspelled.turnStallRetry : Unspelled.Statement (.turnStallRetry) := unspelled _
theorem Unspelled.portGrant : Unspelled.Statement (.portGrant) := unspelled _
theorem Unspelled.fillInstall : Unspelled.Statement (.fillInstall) := unspelled _
theorem Unspelled.fillAbandon : Unspelled.Statement (.fillAbandon) := unspelled _
theorem Unspelled.loadCheck : Unspelled.Statement (.loadCheck) := unspelled _

end Sys2Proof.Laws
end

