-- ==== Sys2Proof/Laws/State.lean ====
section
/-! SUPPORT. The field lemmas of the block updates: each update changes its own block and no other. -/

namespace Sys2Proof.Machine

/-! ## onHost -/

@[simp] theorem State.onHost_pending (s : State) (f : HostLink → HostLink) : (s.onHost f).pending = s.pending := rfl
@[simp] theorem State.onHost_host (s : State) (f : HostLink → HostLink) : (s.onHost f).host = f s.host := rfl
@[simp] theorem State.onHost_ram (s : State) (f : HostLink → HostLink) : (s.onHost f).ram = s.ram := rfl
@[simp] theorem State.onHost_load (s : State) (f : HostLink → HostLink) : (s.onHost f).load = s.load := rfl
@[simp] theorem State.onHost_loader (s : State) (f : HostLink → HostLink) : (s.onHost f).loader = s.loader := rfl
@[simp] theorem State.onHost_time (s : State) (f : HostLink → HostLink) : (s.onHost f).time = s.time := rfl
@[simp] theorem State.onHost_unit (s : State) (f : HostLink → HostLink) : (s.onHost f).unit = s.unit := rfl
@[simp] theorem State.onHost_walk (s : State) (f : HostLink → HostLink) : (s.onHost f).walk = s.walk := rfl
@[simp] theorem State.onHost_roster (s : State) (f : HostLink → HostLink) : (s.onHost f).roster = s.roster := rfl
@[simp] theorem State.onHost_air (s : State) (f : HostLink → HostLink) : (s.onHost f).air = s.air := rfl
@[simp] theorem State.onHost_cache (s : State) (f : HostLink → HostLink) : (s.onHost f).cache = s.cache := rfl

/-! ## onRam -/

@[simp] theorem State.onRam_pending (s : State) (f : Ram → Ram) : (s.onRam f).pending = s.pending := rfl
@[simp] theorem State.onRam_host (s : State) (f : Ram → Ram) : (s.onRam f).host = s.host := rfl
@[simp] theorem State.onRam_ram (s : State) (f : Ram → Ram) : (s.onRam f).ram = f s.ram := rfl
@[simp] theorem State.onRam_load (s : State) (f : Ram → Ram) : (s.onRam f).load = s.load := rfl
@[simp] theorem State.onRam_loader (s : State) (f : Ram → Ram) : (s.onRam f).loader = s.loader := rfl
@[simp] theorem State.onRam_time (s : State) (f : Ram → Ram) : (s.onRam f).time = s.time := rfl
@[simp] theorem State.onRam_unit (s : State) (f : Ram → Ram) : (s.onRam f).unit = s.unit := rfl
@[simp] theorem State.onRam_walk (s : State) (f : Ram → Ram) : (s.onRam f).walk = s.walk := rfl
@[simp] theorem State.onRam_roster (s : State) (f : Ram → Ram) : (s.onRam f).roster = s.roster := rfl
@[simp] theorem State.onRam_air (s : State) (f : Ram → Ram) : (s.onRam f).air = s.air := rfl
@[simp] theorem State.onRam_cache (s : State) (f : Ram → Ram) : (s.onRam f).cache = s.cache := rfl

/-! ## onTime -/

@[simp] theorem State.onTime_pending (s : State) (f : Timebase → Timebase) : (s.onTime f).pending = s.pending := rfl
@[simp] theorem State.onTime_host (s : State) (f : Timebase → Timebase) : (s.onTime f).host = s.host := rfl
@[simp] theorem State.onTime_ram (s : State) (f : Timebase → Timebase) : (s.onTime f).ram = s.ram := rfl
@[simp] theorem State.onTime_load (s : State) (f : Timebase → Timebase) : (s.onTime f).load = s.load := rfl
@[simp] theorem State.onTime_loader (s : State) (f : Timebase → Timebase) : (s.onTime f).loader = s.loader := rfl
@[simp] theorem State.onTime_time (s : State) (f : Timebase → Timebase) : (s.onTime f).time = f s.time := rfl
@[simp] theorem State.onTime_unit (s : State) (f : Timebase → Timebase) : (s.onTime f).unit = s.unit := rfl
@[simp] theorem State.onTime_walk (s : State) (f : Timebase → Timebase) : (s.onTime f).walk = s.walk := rfl
@[simp] theorem State.onTime_roster (s : State) (f : Timebase → Timebase) : (s.onTime f).roster = s.roster := rfl
@[simp] theorem State.onTime_air (s : State) (f : Timebase → Timebase) : (s.onTime f).air = s.air := rfl
@[simp] theorem State.onTime_cache (s : State) (f : Timebase → Timebase) : (s.onTime f).cache = s.cache := rfl

/-! ## onUnit -/

@[simp] theorem State.onUnit_pending (s : State) (f : TicketUnit → TicketUnit) : (s.onUnit f).pending = s.pending := rfl
@[simp] theorem State.onUnit_host (s : State) (f : TicketUnit → TicketUnit) : (s.onUnit f).host = s.host := rfl
@[simp] theorem State.onUnit_ram (s : State) (f : TicketUnit → TicketUnit) : (s.onUnit f).ram = s.ram := rfl
@[simp] theorem State.onUnit_load (s : State) (f : TicketUnit → TicketUnit) : (s.onUnit f).load = s.load := rfl
@[simp] theorem State.onUnit_loader (s : State) (f : TicketUnit → TicketUnit) : (s.onUnit f).loader = s.loader := rfl
@[simp] theorem State.onUnit_time (s : State) (f : TicketUnit → TicketUnit) : (s.onUnit f).time = s.time := rfl
@[simp] theorem State.onUnit_unit (s : State) (f : TicketUnit → TicketUnit) : (s.onUnit f).unit = f s.unit := rfl
@[simp] theorem State.onUnit_walk (s : State) (f : TicketUnit → TicketUnit) : (s.onUnit f).walk = s.walk := rfl
@[simp] theorem State.onUnit_roster (s : State) (f : TicketUnit → TicketUnit) : (s.onUnit f).roster = s.roster := rfl
@[simp] theorem State.onUnit_air (s : State) (f : TicketUnit → TicketUnit) : (s.onUnit f).air = s.air := rfl
@[simp] theorem State.onUnit_cache (s : State) (f : TicketUnit → TicketUnit) : (s.onUnit f).cache = s.cache := rfl

/-! ## onRoster -/

@[simp] theorem State.onRoster_pending (s : State) (f : Roster → Roster) : (s.onRoster f).pending = s.pending := rfl
@[simp] theorem State.onRoster_host (s : State) (f : Roster → Roster) : (s.onRoster f).host = s.host := rfl
@[simp] theorem State.onRoster_ram (s : State) (f : Roster → Roster) : (s.onRoster f).ram = s.ram := rfl
@[simp] theorem State.onRoster_load (s : State) (f : Roster → Roster) : (s.onRoster f).load = s.load := rfl
@[simp] theorem State.onRoster_loader (s : State) (f : Roster → Roster) : (s.onRoster f).loader = s.loader := rfl
@[simp] theorem State.onRoster_time (s : State) (f : Roster → Roster) : (s.onRoster f).time = s.time := rfl
@[simp] theorem State.onRoster_unit (s : State) (f : Roster → Roster) : (s.onRoster f).unit = s.unit := rfl
@[simp] theorem State.onRoster_walk (s : State) (f : Roster → Roster) : (s.onRoster f).walk = s.walk := rfl
@[simp] theorem State.onRoster_roster (s : State) (f : Roster → Roster) : (s.onRoster f).roster = f s.roster := rfl
@[simp] theorem State.onRoster_air (s : State) (f : Roster → Roster) : (s.onRoster f).air = s.air := rfl
@[simp] theorem State.onRoster_cache (s : State) (f : Roster → Roster) : (s.onRoster f).cache = s.cache := rfl

/-! ## onAir -/

@[simp] theorem State.onAir_pending (s : State) (f : AirLink → AirLink) : (s.onAir f).pending = s.pending := rfl
@[simp] theorem State.onAir_host (s : State) (f : AirLink → AirLink) : (s.onAir f).host = s.host := rfl
@[simp] theorem State.onAir_ram (s : State) (f : AirLink → AirLink) : (s.onAir f).ram = s.ram := rfl
@[simp] theorem State.onAir_load (s : State) (f : AirLink → AirLink) : (s.onAir f).load = s.load := rfl
@[simp] theorem State.onAir_loader (s : State) (f : AirLink → AirLink) : (s.onAir f).loader = s.loader := rfl
@[simp] theorem State.onAir_time (s : State) (f : AirLink → AirLink) : (s.onAir f).time = s.time := rfl
@[simp] theorem State.onAir_unit (s : State) (f : AirLink → AirLink) : (s.onAir f).unit = s.unit := rfl
@[simp] theorem State.onAir_walk (s : State) (f : AirLink → AirLink) : (s.onAir f).walk = s.walk := rfl
@[simp] theorem State.onAir_roster (s : State) (f : AirLink → AirLink) : (s.onAir f).roster = s.roster := rfl
@[simp] theorem State.onAir_air (s : State) (f : AirLink → AirLink) : (s.onAir f).air = f s.air := rfl
@[simp] theorem State.onAir_cache (s : State) (f : AirLink → AirLink) : (s.onAir f).cache = s.cache := rfl

/-! ## onCache -/

@[simp] theorem State.onCache_pending (s : State) (f : Cache → Cache) : (s.onCache f).pending = s.pending := rfl
@[simp] theorem State.onCache_host (s : State) (f : Cache → Cache) : (s.onCache f).host = s.host := rfl
@[simp] theorem State.onCache_ram (s : State) (f : Cache → Cache) : (s.onCache f).ram = s.ram := rfl
@[simp] theorem State.onCache_load (s : State) (f : Cache → Cache) : (s.onCache f).load = s.load := rfl
@[simp] theorem State.onCache_loader (s : State) (f : Cache → Cache) : (s.onCache f).loader = s.loader := rfl
@[simp] theorem State.onCache_time (s : State) (f : Cache → Cache) : (s.onCache f).time = s.time := rfl
@[simp] theorem State.onCache_unit (s : State) (f : Cache → Cache) : (s.onCache f).unit = s.unit := rfl
@[simp] theorem State.onCache_walk (s : State) (f : Cache → Cache) : (s.onCache f).walk = s.walk := rfl
@[simp] theorem State.onCache_roster (s : State) (f : Cache → Cache) : (s.onCache f).roster = s.roster := rfl
@[simp] theorem State.onCache_air (s : State) (f : Cache → Cache) : (s.onCache f).air = s.air := rfl
@[simp] theorem State.onCache_cache (s : State) (f : Cache → Cache) : (s.onCache f).cache = f s.cache := rfl

/-! ## withWalk -/

@[simp] theorem State.withWalk_pending (s : State) (f : Option Walk) : (s.withWalk f).pending = s.pending := rfl
@[simp] theorem State.withWalk_host (s : State) (f : Option Walk) : (s.withWalk f).host = s.host := rfl
@[simp] theorem State.withWalk_ram (s : State) (f : Option Walk) : (s.withWalk f).ram = s.ram := rfl
@[simp] theorem State.withWalk_load (s : State) (f : Option Walk) : (s.withWalk f).load = s.load := rfl
@[simp] theorem State.withWalk_loader (s : State) (f : Option Walk) : (s.withWalk f).loader = s.loader := rfl
@[simp] theorem State.withWalk_time (s : State) (f : Option Walk) : (s.withWalk f).time = s.time := rfl
@[simp] theorem State.withWalk_unit (s : State) (f : Option Walk) : (s.withWalk f).unit = s.unit := rfl
@[simp] theorem State.withWalk_walk (s : State) (f : Option Walk) : (s.withWalk f).walk = f := rfl
@[simp] theorem State.withWalk_roster (s : State) (f : Option Walk) : (s.withWalk f).roster = s.roster := rfl
@[simp] theorem State.withWalk_air (s : State) (f : Option Walk) : (s.withWalk f).air = s.air := rfl
@[simp] theorem State.withWalk_cache (s : State) (f : Option Walk) : (s.withWalk f).cache = s.cache := rfl

/-! ## withLoad -/

@[simp] theorem State.withLoad_pending (s : State) (f : Option Load) : (s.withLoad f).pending = s.pending := rfl
@[simp] theorem State.withLoad_host (s : State) (f : Option Load) : (s.withLoad f).host = s.host := rfl
@[simp] theorem State.withLoad_ram (s : State) (f : Option Load) : (s.withLoad f).ram = s.ram := rfl
@[simp] theorem State.withLoad_load (s : State) (f : Option Load) : (s.withLoad f).load = f := rfl
@[simp] theorem State.withLoad_loader (s : State) (f : Option Load) : (s.withLoad f).loader = s.loader := rfl
@[simp] theorem State.withLoad_time (s : State) (f : Option Load) : (s.withLoad f).time = s.time := rfl
@[simp] theorem State.withLoad_unit (s : State) (f : Option Load) : (s.withLoad f).unit = s.unit := rfl
@[simp] theorem State.withLoad_walk (s : State) (f : Option Load) : (s.withLoad f).walk = s.walk := rfl
@[simp] theorem State.withLoad_roster (s : State) (f : Option Load) : (s.withLoad f).roster = s.roster := rfl
@[simp] theorem State.withLoad_air (s : State) (f : Option Load) : (s.withLoad f).air = s.air := rfl
@[simp] theorem State.withLoad_cache (s : State) (f : Option Load) : (s.withLoad f).cache = s.cache := rfl

/-! ## withLoader -/

@[simp] theorem State.withLoader_pending (s : State) (f : LoaderPhase) : (s.withLoader f).pending = s.pending := rfl
@[simp] theorem State.withLoader_host (s : State) (f : LoaderPhase) : (s.withLoader f).host = s.host := rfl
@[simp] theorem State.withLoader_ram (s : State) (f : LoaderPhase) : (s.withLoader f).ram = s.ram := rfl
@[simp] theorem State.withLoader_load (s : State) (f : LoaderPhase) : (s.withLoader f).load = s.load := rfl
@[simp] theorem State.withLoader_loader (s : State) (f : LoaderPhase) : (s.withLoader f).loader = f := rfl
@[simp] theorem State.withLoader_time (s : State) (f : LoaderPhase) : (s.withLoader f).time = s.time := rfl
@[simp] theorem State.withLoader_unit (s : State) (f : LoaderPhase) : (s.withLoader f).unit = s.unit := rfl
@[simp] theorem State.withLoader_walk (s : State) (f : LoaderPhase) : (s.withLoader f).walk = s.walk := rfl
@[simp] theorem State.withLoader_roster (s : State) (f : LoaderPhase) : (s.withLoader f).roster = s.roster := rfl
@[simp] theorem State.withLoader_air (s : State) (f : LoaderPhase) : (s.withLoader f).air = s.air := rfl
@[simp] theorem State.withLoader_cache (s : State) (f : LoaderPhase) : (s.withLoader f).cache = s.cache := rfl

/-! ## withPending -/

@[simp] theorem State.withPending_pending (s : State) (f : List Instr) : (s.withPending f).pending = f := rfl
@[simp] theorem State.withPending_host (s : State) (f : List Instr) : (s.withPending f).host = s.host := rfl
@[simp] theorem State.withPending_ram (s : State) (f : List Instr) : (s.withPending f).ram = s.ram := rfl
@[simp] theorem State.withPending_load (s : State) (f : List Instr) : (s.withPending f).load = s.load := rfl
@[simp] theorem State.withPending_loader (s : State) (f : List Instr) : (s.withPending f).loader = s.loader := rfl
@[simp] theorem State.withPending_time (s : State) (f : List Instr) : (s.withPending f).time = s.time := rfl
@[simp] theorem State.withPending_unit (s : State) (f : List Instr) : (s.withPending f).unit = s.unit := rfl
@[simp] theorem State.withPending_walk (s : State) (f : List Instr) : (s.withPending f).walk = s.walk := rfl
@[simp] theorem State.withPending_roster (s : State) (f : List Instr) : (s.withPending f).roster = s.roster := rfl
@[simp] theorem State.withPending_air (s : State) (f : List Instr) : (s.withPending f).air = s.air := rfl
@[simp] theorem State.withPending_cache (s : State) (f : List Instr) : (s.withPending f).cache = s.cache := rfl

/-! ## Named updates -/

@[simp] theorem State.latch_pending (s : State) (c : Cause) : (s.latch c).pending = s.pending := rfl
@[simp] theorem State.latch_ram (s : State) (c : Cause) : (s.latch c).ram = s.ram := rfl
@[simp] theorem State.latch_load (s : State) (c : Cause) : (s.latch c).load = s.load := rfl
@[simp] theorem State.latch_loader (s : State) (c : Cause) : (s.latch c).loader = s.loader := rfl
@[simp] theorem State.latch_time (s : State) (c : Cause) : (s.latch c).time = s.time := rfl
@[simp] theorem State.latch_unit (s : State) (c : Cause) : (s.latch c).unit = s.unit := rfl
@[simp] theorem State.latch_walk (s : State) (c : Cause) : (s.latch c).walk = s.walk := rfl
@[simp] theorem State.latch_roster (s : State) (c : Cause) : (s.latch c).roster = s.roster := rfl
@[simp] theorem State.latch_air (s : State) (c : Cause) : (s.latch c).air = s.air := rfl
@[simp] theorem State.latch_cache (s : State) (c : Cause) : (s.latch c).cache = s.cache := rfl

@[simp] theorem State.putWord_pending (s : State) (a : Nat) (w : Word) : (s.putWord a w).pending = s.pending := rfl
@[simp] theorem State.putWord_host (s : State) (a : Nat) (w : Word) : (s.putWord a w).host = s.host := rfl
@[simp] theorem State.putWord_load (s : State) (a : Nat) (w : Word) : (s.putWord a w).load = s.load := rfl
@[simp] theorem State.putWord_loader (s : State) (a : Nat) (w : Word) : (s.putWord a w).loader = s.loader := rfl
@[simp] theorem State.putWord_time (s : State) (a : Nat) (w : Word) : (s.putWord a w).time = s.time := rfl
@[simp] theorem State.putWord_unit (s : State) (a : Nat) (w : Word) : (s.putWord a w).unit = s.unit := rfl
@[simp] theorem State.putWord_walk (s : State) (a : Nat) (w : Word) : (s.putWord a w).walk = s.walk := rfl
@[simp] theorem State.putWord_roster (s : State) (a : Nat) (w : Word) : (s.putWord a w).roster = s.roster := rfl
@[simp] theorem State.putWord_air (s : State) (a : Nat) (w : Word) : (s.putWord a w).air = s.air := rfl
@[simp] theorem State.putWord_cache (s : State) (a : Nat) (w : Word) : (s.putWord a w).cache = s.cache := rfl

@[simp] theorem State.setTicket_pending (s : State) (n : Nat) (t : Ticket) : (s.setTicket n t).pending = s.pending := rfl
@[simp] theorem State.setTicket_host (s : State) (n : Nat) (t : Ticket) : (s.setTicket n t).host = s.host := rfl
@[simp] theorem State.setTicket_ram (s : State) (n : Nat) (t : Ticket) : (s.setTicket n t).ram = s.ram := rfl
@[simp] theorem State.setTicket_load (s : State) (n : Nat) (t : Ticket) : (s.setTicket n t).load = s.load := rfl
@[simp] theorem State.setTicket_loader (s : State) (n : Nat) (t : Ticket) : (s.setTicket n t).loader = s.loader := rfl
@[simp] theorem State.setTicket_time (s : State) (n : Nat) (t : Ticket) : (s.setTicket n t).time = s.time := rfl
@[simp] theorem State.setTicket_walk (s : State) (n : Nat) (t : Ticket) : (s.setTicket n t).walk = s.walk := rfl
@[simp] theorem State.setTicket_roster (s : State) (n : Nat) (t : Ticket) : (s.setTicket n t).roster = s.roster := rfl
@[simp] theorem State.setTicket_air (s : State) (n : Nat) (t : Ticket) : (s.setTicket n t).air = s.air := rfl
@[simp] theorem State.setTicket_cache (s : State) (n : Nat) (t : Ticket) : (s.setTicket n t).cache = s.cache := rfl

@[simp] theorem State.dropTicket_pending (s : State) (n : Nat) : (s.dropTicket n).pending = s.pending := rfl
@[simp] theorem State.dropTicket_host (s : State) (n : Nat) : (s.dropTicket n).host = s.host := rfl
@[simp] theorem State.dropTicket_ram (s : State) (n : Nat) : (s.dropTicket n).ram = s.ram := rfl
@[simp] theorem State.dropTicket_load (s : State) (n : Nat) : (s.dropTicket n).load = s.load := rfl
@[simp] theorem State.dropTicket_loader (s : State) (n : Nat) : (s.dropTicket n).loader = s.loader := rfl
@[simp] theorem State.dropTicket_time (s : State) (n : Nat) : (s.dropTicket n).time = s.time := rfl
@[simp] theorem State.dropTicket_walk (s : State) (n : Nat) : (s.dropTicket n).walk = s.walk := rfl
@[simp] theorem State.dropTicket_roster (s : State) (n : Nat) : (s.dropTicket n).roster = s.roster := rfl
@[simp] theorem State.dropTicket_air (s : State) (n : Nat) : (s.dropTicket n).air = s.air := rfl
@[simp] theorem State.dropTicket_cache (s : State) (n : Nat) : (s.dropTicket n).cache = s.cache := rfl

@[simp] theorem State.putTicketWord_pending (s : State) (n off : Nat) (w : Word) : (s.putTicketWord n off w).pending = s.pending := rfl
@[simp] theorem State.putTicketWord_host (s : State) (n off : Nat) (w : Word) : (s.putTicketWord n off w).host = s.host := rfl
@[simp] theorem State.putTicketWord_load (s : State) (n off : Nat) (w : Word) : (s.putTicketWord n off w).load = s.load := rfl
@[simp] theorem State.putTicketWord_loader (s : State) (n off : Nat) (w : Word) : (s.putTicketWord n off w).loader = s.loader := rfl
@[simp] theorem State.putTicketWord_time (s : State) (n off : Nat) (w : Word) : (s.putTicketWord n off w).time = s.time := rfl
@[simp] theorem State.putTicketWord_unit (s : State) (n off : Nat) (w : Word) : (s.putTicketWord n off w).unit = s.unit := rfl
@[simp] theorem State.putTicketWord_walk (s : State) (n off : Nat) (w : Word) : (s.putTicketWord n off w).walk = s.walk := rfl
@[simp] theorem State.putTicketWord_roster (s : State) (n off : Nat) (w : Word) : (s.putTicketWord n off w).roster = s.roster := rfl
@[simp] theorem State.putTicketWord_air (s : State) (n off : Nat) (w : Word) : (s.putTicketWord n off w).air = s.air := rfl
@[simp] theorem State.putTicketWord_cache (s : State) (n off : Nat) (w : Word) : (s.putTicketWord n off w).cache = s.cache := rfl

@[simp] theorem State.finishCommand_pending (s : State) (r : CommandResult) : (s.finishCommand r).pending = s.pending := rfl
@[simp] theorem State.finishCommand_ram (s : State) (r : CommandResult) : (s.finishCommand r).ram = s.ram := rfl
@[simp] theorem State.finishCommand_load (s : State) (r : CommandResult) : (s.finishCommand r).load = s.load := rfl
@[simp] theorem State.finishCommand_loader (s : State) (r : CommandResult) : (s.finishCommand r).loader = s.loader := rfl
@[simp] theorem State.finishCommand_time (s : State) (r : CommandResult) : (s.finishCommand r).time = s.time := rfl
@[simp] theorem State.finishCommand_unit (s : State) (r : CommandResult) : (s.finishCommand r).unit = s.unit := rfl
@[simp] theorem State.finishCommand_walk (s : State) (r : CommandResult) : (s.finishCommand r).walk = s.walk := rfl
@[simp] theorem State.finishCommand_roster (s : State) (r : CommandResult) : (s.finishCommand r).roster = s.roster := rfl
@[simp] theorem State.finishCommand_air (s : State) (r : CommandResult) : (s.finishCommand r).air = s.air := rfl
@[simp] theorem State.finishCommand_cache (s : State) (r : CommandResult) : (s.finishCommand r).cache = s.cache := rfl

@[simp] theorem State.giveResult_pending (s : State) (r : CommandResult) : (s.giveResult r).pending = s.pending := rfl
@[simp] theorem State.giveResult_ram (s : State) (r : CommandResult) : (s.giveResult r).ram = s.ram := rfl
@[simp] theorem State.giveResult_load (s : State) (r : CommandResult) : (s.giveResult r).load = s.load := rfl
@[simp] theorem State.giveResult_loader (s : State) (r : CommandResult) : (s.giveResult r).loader = s.loader := rfl
@[simp] theorem State.giveResult_time (s : State) (r : CommandResult) : (s.giveResult r).time = s.time := rfl
@[simp] theorem State.giveResult_unit (s : State) (r : CommandResult) : (s.giveResult r).unit = s.unit := rfl
@[simp] theorem State.giveResult_walk (s : State) (r : CommandResult) : (s.giveResult r).walk = s.walk := rfl
@[simp] theorem State.giveResult_roster (s : State) (r : CommandResult) : (s.giveResult r).roster = s.roster := rfl
@[simp] theorem State.giveResult_air (s : State) (r : CommandResult) : (s.giveResult r).air = s.air := rfl
@[simp] theorem State.giveResult_cache (s : State) (r : CommandResult) : (s.giveResult r).cache = s.cache := rfl

@[simp] theorem State.beginCommand_pending (s : State) (c : ActiveCommand) : (s.beginCommand c).pending = s.pending := rfl
@[simp] theorem State.beginCommand_ram (s : State) (c : ActiveCommand) : (s.beginCommand c).ram = s.ram := rfl
@[simp] theorem State.beginCommand_load (s : State) (c : ActiveCommand) : (s.beginCommand c).load = s.load := rfl
@[simp] theorem State.beginCommand_loader (s : State) (c : ActiveCommand) : (s.beginCommand c).loader = s.loader := rfl
@[simp] theorem State.beginCommand_time (s : State) (c : ActiveCommand) : (s.beginCommand c).time = s.time := rfl
@[simp] theorem State.beginCommand_unit (s : State) (c : ActiveCommand) : (s.beginCommand c).unit = s.unit := rfl
@[simp] theorem State.beginCommand_walk (s : State) (c : ActiveCommand) : (s.beginCommand c).walk = s.walk := rfl
@[simp] theorem State.beginCommand_roster (s : State) (c : ActiveCommand) : (s.beginCommand c).roster = s.roster := rfl
@[simp] theorem State.beginCommand_air (s : State) (c : ActiveCommand) : (s.beginCommand c).air = s.air := rfl
@[simp] theorem State.beginCommand_cache (s : State) (c : ActiveCommand) : (s.beginCommand c).cache = s.cache := rfl

@[simp] theorem State.changeEntry_pending (s : State) (i : Nat) (f : Entry → Entry) : (s.changeEntry i f).pending = s.pending := rfl
@[simp] theorem State.changeEntry_host (s : State) (i : Nat) (f : Entry → Entry) : (s.changeEntry i f).host = s.host := rfl
@[simp] theorem State.changeEntry_ram (s : State) (i : Nat) (f : Entry → Entry) : (s.changeEntry i f).ram = s.ram := rfl
@[simp] theorem State.changeEntry_load (s : State) (i : Nat) (f : Entry → Entry) : (s.changeEntry i f).load = s.load := rfl
@[simp] theorem State.changeEntry_loader (s : State) (i : Nat) (f : Entry → Entry) : (s.changeEntry i f).loader = s.loader := rfl
@[simp] theorem State.changeEntry_time (s : State) (i : Nat) (f : Entry → Entry) : (s.changeEntry i f).time = s.time := rfl
@[simp] theorem State.changeEntry_unit (s : State) (i : Nat) (f : Entry → Entry) : (s.changeEntry i f).unit = s.unit := rfl
@[simp] theorem State.changeEntry_walk (s : State) (i : Nat) (f : Entry → Entry) : (s.changeEntry i f).walk = s.walk := rfl
@[simp] theorem State.changeEntry_air (s : State) (i : Nat) (f : Entry → Entry) : (s.changeEntry i f).air = s.air := rfl
@[simp] theorem State.changeEntry_cache (s : State) (i : Nat) (f : Entry → Entry) : (s.changeEntry i f).cache = s.cache := rfl

@[simp] theorem State.removeEntry_pending (s : State) (i : Nat) : (s.removeEntry i).pending = s.pending := rfl
@[simp] theorem State.removeEntry_host (s : State) (i : Nat) : (s.removeEntry i).host = s.host := rfl
@[simp] theorem State.removeEntry_ram (s : State) (i : Nat) : (s.removeEntry i).ram = s.ram := rfl
@[simp] theorem State.removeEntry_load (s : State) (i : Nat) : (s.removeEntry i).load = s.load := rfl
@[simp] theorem State.removeEntry_loader (s : State) (i : Nat) : (s.removeEntry i).loader = s.loader := rfl
@[simp] theorem State.removeEntry_time (s : State) (i : Nat) : (s.removeEntry i).time = s.time := rfl
@[simp] theorem State.removeEntry_unit (s : State) (i : Nat) : (s.removeEntry i).unit = s.unit := rfl
@[simp] theorem State.removeEntry_walk (s : State) (i : Nat) : (s.removeEntry i).walk = s.walk := rfl
@[simp] theorem State.removeEntry_air (s : State) (i : Nat) : (s.removeEntry i).air = s.air := rfl
@[simp] theorem State.removeEntry_cache (s : State) (i : Nat) : (s.removeEntry i).cache = s.cache := rfl

@[simp] theorem State.awaitRemovals_pending (s : State) (n : Nat) : (s.awaitRemovals n).pending = s.pending := rfl
@[simp] theorem State.awaitRemovals_host (s : State) (n : Nat) : (s.awaitRemovals n).host = s.host := rfl
@[simp] theorem State.awaitRemovals_ram (s : State) (n : Nat) : (s.awaitRemovals n).ram = s.ram := rfl
@[simp] theorem State.awaitRemovals_load (s : State) (n : Nat) : (s.awaitRemovals n).load = s.load := rfl
@[simp] theorem State.awaitRemovals_loader (s : State) (n : Nat) : (s.awaitRemovals n).loader = s.loader := rfl
@[simp] theorem State.awaitRemovals_time (s : State) (n : Nat) : (s.awaitRemovals n).time = s.time := rfl
@[simp] theorem State.awaitRemovals_unit (s : State) (n : Nat) : (s.awaitRemovals n).unit = s.unit := rfl
@[simp] theorem State.awaitRemovals_walk (s : State) (n : Nat) : (s.awaitRemovals n).walk = s.walk := rfl
@[simp] theorem State.awaitRemovals_air (s : State) (n : Nat) : (s.awaitRemovals n).air = s.air := rfl
@[simp] theorem State.awaitRemovals_cache (s : State) (n : Nat) : (s.awaitRemovals n).cache = s.cache := rfl
/-- Each entry of the ticket that is in removal is awaited, and no entry comes or goes. -/
theorem State.awaitRemovals_entries (s : State) (n : Nat) :
    (s.awaitRemovals n).roster.entries = s.roster.entries.map (Entry.awaited n) := rfl

@[simp] theorem Entry.awaited_index (n : Nat) (e : Entry) : (e.awaited n).index = e.index := by
  unfold Entry.awaited; split <;> rfl
@[simp] theorem Entry.awaited_owner (n : Nat) (e : Entry) : (e.awaited n).owner = e.owner := by
  unfold Entry.awaited; split <;> rfl
@[simp] theorem Entry.awaited_removing (n : Nat) (e : Entry) : (e.awaited n).removing = e.removing := by
  unfold Entry.awaited; split <;> rfl

@[simp] theorem State.joinEntry_pending (s : State) (e : Entry) : (s.joinEntry e).pending = s.pending := rfl
@[simp] theorem State.joinEntry_host (s : State) (e : Entry) : (s.joinEntry e).host = s.host := rfl
@[simp] theorem State.joinEntry_ram (s : State) (e : Entry) : (s.joinEntry e).ram = s.ram := rfl
@[simp] theorem State.joinEntry_load (s : State) (e : Entry) : (s.joinEntry e).load = s.load := rfl
@[simp] theorem State.joinEntry_loader (s : State) (e : Entry) : (s.joinEntry e).loader = s.loader := rfl
@[simp] theorem State.joinEntry_time (s : State) (e : Entry) : (s.joinEntry e).time = s.time := rfl
@[simp] theorem State.joinEntry_unit (s : State) (e : Entry) : (s.joinEntry e).unit = s.unit := rfl
@[simp] theorem State.joinEntry_walk (s : State) (e : Entry) : (s.joinEntry e).walk = s.walk := rfl
@[simp] theorem State.joinEntry_air (s : State) (e : Entry) : (s.joinEntry e).air = s.air := rfl
@[simp] theorem State.joinEntry_cache (s : State) (e : Entry) : (s.joinEntry e).cache = s.cache := rfl

@[simp] theorem State.changeWalk_pending (s : State) (f : Walk → Walk) : (s.changeWalk f).pending = s.pending := rfl
@[simp] theorem State.changeWalk_host (s : State) (f : Walk → Walk) : (s.changeWalk f).host = s.host := rfl
@[simp] theorem State.changeWalk_ram (s : State) (f : Walk → Walk) : (s.changeWalk f).ram = s.ram := rfl
@[simp] theorem State.changeWalk_load (s : State) (f : Walk → Walk) : (s.changeWalk f).load = s.load := rfl
@[simp] theorem State.changeWalk_loader (s : State) (f : Walk → Walk) : (s.changeWalk f).loader = s.loader := rfl
@[simp] theorem State.changeWalk_time (s : State) (f : Walk → Walk) : (s.changeWalk f).time = s.time := rfl
@[simp] theorem State.changeWalk_unit (s : State) (f : Walk → Walk) : (s.changeWalk f).unit = s.unit := rfl
@[simp] theorem State.changeWalk_roster (s : State) (f : Walk → Walk) : (s.changeWalk f).roster = s.roster := rfl
@[simp] theorem State.changeWalk_air (s : State) (f : Walk → Walk) : (s.changeWalk f).air = s.air := rfl
@[simp] theorem State.changeWalk_cache (s : State) (f : Walk → Walk) : (s.changeWalk f).cache = s.cache := rfl

@[simp] theorem State.askAir_pending (s : State) (r : Request) : (s.askAir r).pending = s.pending := rfl
@[simp] theorem State.askAir_host (s : State) (r : Request) : (s.askAir r).host = s.host := rfl
@[simp] theorem State.askAir_ram (s : State) (r : Request) : (s.askAir r).ram = s.ram := rfl
@[simp] theorem State.askAir_load (s : State) (r : Request) : (s.askAir r).load = s.load := rfl
@[simp] theorem State.askAir_loader (s : State) (r : Request) : (s.askAir r).loader = s.loader := rfl
@[simp] theorem State.askAir_time (s : State) (r : Request) : (s.askAir r).time = s.time := rfl
@[simp] theorem State.askAir_unit (s : State) (r : Request) : (s.askAir r).unit = s.unit := rfl
@[simp] theorem State.askAir_walk (s : State) (r : Request) : (s.askAir r).walk = s.walk := rfl
@[simp] theorem State.askAir_roster (s : State) (r : Request) : (s.askAir r).roster = s.roster := rfl
@[simp] theorem State.askAir_air (s : State) (r : Request) : (s.askAir r).air = s.air := rfl

@[simp] theorem State.askDelivery_pending (s : State) (i : Nat) (d : DeliveryState) : (s.askDelivery i d).pending = s.pending := rfl
@[simp] theorem State.askDelivery_host (s : State) (i : Nat) (d : DeliveryState) : (s.askDelivery i d).host = s.host := rfl
@[simp] theorem State.askDelivery_ram (s : State) (i : Nat) (d : DeliveryState) : (s.askDelivery i d).ram = s.ram := rfl
@[simp] theorem State.askDelivery_load (s : State) (i : Nat) (d : DeliveryState) : (s.askDelivery i d).load = s.load := rfl
@[simp] theorem State.askDelivery_loader (s : State) (i : Nat) (d : DeliveryState) : (s.askDelivery i d).loader = s.loader := rfl
@[simp] theorem State.askDelivery_time (s : State) (i : Nat) (d : DeliveryState) : (s.askDelivery i d).time = s.time := rfl
@[simp] theorem State.askDelivery_unit (s : State) (i : Nat) (d : DeliveryState) : (s.askDelivery i d).unit = s.unit := rfl
@[simp] theorem State.askDelivery_walk (s : State) (i : Nat) (d : DeliveryState) : (s.askDelivery i d).walk = s.walk := rfl
@[simp] theorem State.askDelivery_roster (s : State) (i : Nat) (d : DeliveryState) : (s.askDelivery i d).roster = s.roster := rfl
@[simp] theorem State.askDelivery_air (s : State) (i : Nat) (d : DeliveryState) : (s.askDelivery i d).air = s.air := rfl

@[simp] theorem State.keyFrame_pending (s : State) (b : List Byte) : (s.keyFrame b).pending = s.pending := rfl
@[simp] theorem State.keyFrame_host (s : State) (b : List Byte) : (s.keyFrame b).host = s.host := rfl
@[simp] theorem State.keyFrame_ram (s : State) (b : List Byte) : (s.keyFrame b).ram = s.ram := rfl
@[simp] theorem State.keyFrame_load (s : State) (b : List Byte) : (s.keyFrame b).load = s.load := rfl
@[simp] theorem State.keyFrame_loader (s : State) (b : List Byte) : (s.keyFrame b).loader = s.loader := rfl
@[simp] theorem State.keyFrame_time (s : State) (b : List Byte) : (s.keyFrame b).time = s.time := rfl
@[simp] theorem State.keyFrame_unit (s : State) (b : List Byte) : (s.keyFrame b).unit = s.unit := rfl
@[simp] theorem State.keyFrame_walk (s : State) (b : List Byte) : (s.keyFrame b).walk = s.walk := rfl
@[simp] theorem State.keyFrame_roster (s : State) (b : List Byte) : (s.keyFrame b).roster = s.roster := rfl
@[simp] theorem State.keyFrame_cache (s : State) (b : List Byte) : (s.keyFrame b).cache = s.cache := rfl

@[simp] theorem State.setStage_pending (s : State) (g : AirStage) : (s.setStage g).pending = s.pending := rfl
@[simp] theorem State.setStage_host (s : State) (g : AirStage) : (s.setStage g).host = s.host := rfl
@[simp] theorem State.setStage_ram (s : State) (g : AirStage) : (s.setStage g).ram = s.ram := rfl
@[simp] theorem State.setStage_load (s : State) (g : AirStage) : (s.setStage g).load = s.load := rfl
@[simp] theorem State.setStage_loader (s : State) (g : AirStage) : (s.setStage g).loader = s.loader := rfl
@[simp] theorem State.setStage_time (s : State) (g : AirStage) : (s.setStage g).time = s.time := rfl
@[simp] theorem State.setStage_unit (s : State) (g : AirStage) : (s.setStage g).unit = s.unit := rfl
@[simp] theorem State.setStage_walk (s : State) (g : AirStage) : (s.setStage g).walk = s.walk := rfl
@[simp] theorem State.setStage_roster (s : State) (g : AirStage) : (s.setStage g).roster = s.roster := rfl
@[simp] theorem State.setStage_cache (s : State) (g : AirStage) : (s.setStage g).cache = s.cache := rfl

@[simp] theorem State.ramWrite_pending (s : State) (a : Nat) (w : Word) : (s.ramWrite a w).pending = s.pending := rfl
@[simp] theorem State.ramWrite_host (s : State) (a : Nat) (w : Word) : (s.ramWrite a w).host = s.host := rfl
@[simp] theorem State.ramWrite_load (s : State) (a : Nat) (w : Word) : (s.ramWrite a w).load = s.load := rfl
@[simp] theorem State.ramWrite_loader (s : State) (a : Nat) (w : Word) : (s.ramWrite a w).loader = s.loader := rfl
@[simp] theorem State.ramWrite_time (s : State) (a : Nat) (w : Word) : (s.ramWrite a w).time = s.time := rfl
@[simp] theorem State.ramWrite_unit (s : State) (a : Nat) (w : Word) : (s.ramWrite a w).unit = s.unit := rfl
@[simp] theorem State.ramWrite_walk (s : State) (a : Nat) (w : Word) : (s.ramWrite a w).walk = s.walk := rfl
@[simp] theorem State.ramWrite_roster (s : State) (a : Nat) (w : Word) : (s.ramWrite a w).roster = s.roster := rfl
@[simp] theorem State.ramWrite_air (s : State) (a : Nat) (w : Word) : (s.ramWrite a w).air = s.air := rfl
@[simp] theorem State.ramWrite_cache (s : State) (a : Nat) (w : Word) : (s.ramWrite a w).cache = s.cache := rfl

theorem State.latch_attention (s : State) (c : Cause) : (s.latch c).host.attention = s.host.attention ||| c.mask := rfl

@[simp] theorem State.putWord_ram (s : State) (a : Nat) (w : Word) : (s.putWord a w).ram = s.ram.setWord a w := rfl

@[simp] theorem State.setTicket_tickets (s : State) (n : Nat) (t : Ticket) :
    (s.setTicket n t).unit.tickets = assocPut n t s.unit.tickets := rfl

@[simp] theorem State.finishCommand_active (s : State) (r : CommandResult) : (s.finishCommand r).host.active = none := rfl

@[simp] theorem State.finishCommand_lastResult (s : State) (r : CommandResult) :
    (s.finishCommand r).host.lastResult = r := rfl

@[simp] theorem State.giveResult_lastResult (s : State) (r : CommandResult) : (s.giveResult r).host.lastResult = r := rfl

/-! ## What a held end request and a bad current link leave of the walker's next act (R82, R187) -/

theorem State.unlessEnding_of_none {s next : State} {w : Walk} (hw : s.walk = some w) (he : w.endRequest = none) :
    s.unlessEnding next = next := by simp [State.unlessEnding, hw, he]

theorem State.unlessEnding_of_some {s next : State} {w : Walk} {o : TicketOutcome} (hw : s.walk = some w)
    (he : w.endRequest = some o) : s.unlessEnding next = s.endWalk o .none none := by simp [State.unlessEnding, hw, he]

theorem Walk.iterationLink_of_bad {w : Walk} (f : SpanFrame) {b : BitVec 17} (h : w.link = .undefinedForm b) :
    w.iterationLink f = w.link := by simp [Walk.iterationLink, h]

theorem Walk.iterationLink_of_named {w : Walk} (f : SpanFrame) (h : ∀ b, w.link ≠ .undefinedForm b) :
    w.iterationLink f = f.body := by
  unfold Walk.iterationLink
  split
  · exact absurd ‹_› (h _)
  · rfl

end Sys2Proof.Machine
end

