-- ==== Sys2Proof/Tests/Slice0.lean ====
section
/-! SUPPORT. Tests of single commands, expected results from the manual's tables and worked cases, and for every obligation
with hypotheses a concrete state and operands that meet them together. -/

namespace Sys2Proof.Tests

open Sys2Proof.Machine

set_option Elab.async false

/-! ## Small states -/

/-- The next state, if there is one. -/
def after : Host.Outcome State Fault Refusal → Option State
  | .next s => some s
  | .fault _ | .refused _ => none

/-- A RAM with some words written since power-on. -/
def ramOf (ws : List (Nat × Word)) : Ram := ws.foldl (fun m p => m.setWord p.1 p.2) (Ram.powerOn 0)

/-- A word whose parity does not match. -/
def spoil (m : Ram) (a : Nat) : Ram := { m with parity := assocPut (a / 4) true m.parity }

/-- Board at 4,096, settings at 8,192, a directory of 2,048 records at 65,536: region 0 BACK, region 1 THROUGH. -/
def settings : Load :=
  { boardBase := 4096, directoryBase := 65536, directorySize := 2048, settingsBase := 8192, cellCode := 0x1234#16,
    channel := 3, attemptLimit := 3, sweepInterval := 1000, rushStart := 72000, rushEnd := 25200, batteryFloor := 5#4,
    policy := 1#16 }

/-- A loaded part, HALTED, with store time set. -/
def halted : State :=
  { State.reset with
    load := some settings
    host := { HostLink.reset with runState := .halted }
    time := { Timebase.reset with storeTime := 1000000#32, timeSet := true } }

/-- A RUNNING part in slot 5, radio ACTIVE. -/
def running : State :=
  { halted with
    host := { halted.host with runState := .running }
    time := { halted.time with position := .slot 5, nextCycle := 1#16, cycleTime := 1000000#32 }
    air := { AirLink.reset with radio := .active }
    unit := { TicketUnit.reset with sweepTimer := some 0 } }

def withRam (s : State) (ws : List (Nat × Word)) : State := { s with ram := ramOf ws }

/-- A state with one word's parity spoilt. -/
def spoiled (s : State) (a : Nat) : State := { s with ram := spoil s.ram a }

/-- A held ticket: OVERNIGHT, chain base 16,384, list of 4 entries at 24,576. -/
def someTicket (state : ContextState) : Ticket :=
  { state := state, cls := .overnight, sequence := 7#32, chainBase := 16384, firstLink := .short 0#16, cardLimit := 40,
    activation := 0#32, deadline := 1000000#32, listAddress := 24576, listCapacity := 4,
    tallies := List.replicate 17 0#32, entriesWritten := 0, overflow := 0, progressMark := 0, outcome := none,
    reason := .none, stopCard := none, cancelled := false, expired := false, expiryDue := false, lastCard := none }

def withTicket (s : State) (n : Nat) (k : Ticket) : State := { s with unit := { s.unit with tickets := [(n, k)] } }

/-- An entry of index 5 in its wake slot, owned by ticket 3. -/
def someEntry (state : EntryState) : Entry :=
  { index := 5, ident := 300117#24, slot := wakeSlot 5, phase := 0, exponent := 0, rushing := false, owner := 3,
    cls := .overnight, state := state, attempts := 0, offered := false, version := 42#16, activation := 0#32,
    turn := none, removing := none, cancelWaits := false, deferCancel := false, deferExpiry := false, decision := none }

def withEntries (s : State) (es : List Entry) : State := { s with roster := { s.roster with entries := es } }

def someLine (index : Nat) (dirty : BitVec 4) : Line :=
  { index := index, words := List.replicate 16 0x11#32, dirty := dirty, pushPending := false }

def withLines (s : State) (ls : List (Nat × Line)) : State := { s with cache := { s.cache with lines := ls } }

def someFill (index : Nat) : Fill :=
  { key := 4 * cacheSet index, index := index, requester := .walker, request := none, first := 0, arrived := [] }

def filling (s : State) (index : Nat) : State := { s with cache := { s.cache with fill := some (someFill index) } }

/-! ## Hypotheses over every slot, from the list of the tickets held -/

theorem mem_of_find {α : Type} {n : Nat} {v : α} : ∀ {l : List (Nat × α)}, assocFind n l = some v → (n, v) ∈ l
  | [], h => by cases h
  | (j, w) :: rest, h => by
    simp only [assocFind] at h
    split at h
    · next e => cases h; simp [e]
    · exact List.mem_cons_of_mem _ (mem_of_find h)

/-- The words of `Ticket.waits`. -/
abbrev Waits (k : Ticket) : Prop := k.state = .queued ∨ k.cls = .overnight ∧ k.state = .parked

/-- The words of `Ticket.ranksBefore`. -/
abbrev Ranks (k : Ticket) (n : Nat) (j : Ticket) (m : Nat) : Prop :=
  k.cls = .urgent ∧ j.cls = .overnight
    ∨ k.cls = j.cls ∧ (k.sequence.toNat < j.sequence.toNat ∨ k.sequence = j.sequence ∧ n < m)

theorem alone_of {s : State} {n : Nat} (h : ∀ p ∈ s.unit.tickets, p.1 ≠ n → ¬ Waits p.2) :
    ∀ m j, m ≠ n → s.ticket m = some j → ¬ j.waits := fun _ _ hm hf => h _ (mem_of_find hf) hm

theorem none_waits {s : State} (h : rising s.unit.tickets = true ∧ ∀ p ∈ s.unit.tickets, ¬ Waits p.2) : s.noneWaits :=
  ⟨h.1, fun _ _ hf => h.2 _ (mem_of_find hf)⟩

theorem ranks_first {s : State} {n : Nat} {k : Ticket}
    (h : rising s.unit.tickets = true ∧ s.ticket n = some k ∧ Waits k
      ∧ ∀ p ∈ s.unit.tickets, p.1 ≠ n → Waits p.2 → Ranks k n p.2 p.1) : s.ranksFirst n k :=
  ⟨h.1, h.2.1, h.2.2.1, fun _ _ hm hf hw => h.2.2.2 _ (mem_of_find hf) hm hw⟩

theorem may_end {s : State} {n : Nat} {k : Ticket}
    (h : (rising s.unit.tickets = true ∧ s.ticket n = some k) ∧ (s.boardBase % 4096 = 0 ∧ n < 32) ∧ s.ram.wf = true
      ∧ s.oneEntryEach = true) : s.WalkMayEnd n k :=
  ⟨h.1, h.2.1, h.2.2.1, fun _ => h.2.2.2⟩

theorem walker_ready {s : State} {w : Walk} {k : Ticket}
    (h : s.host.runState = .running ∧ s.host.active ≠ some .halt ∧ s.walk = some w ∧ w.phase = .ready
      ∧ s.ticket w.slot = some k ∧ w.slot < 32 ∧ k.tallies.length = 17 ∧ s.boardBase % 4096 = 0 ∧ s.ram.wf = true) :
    s.WalkerReady w k :=
  ⟨h.1, h.2.1, h.2.2.1, h.2.2.2.1, h.2.2.2.2.1, h.2.2.2.2.2.1, h.2.2.2.2.2.2.1, h.2.2.2.2.2.2.2.1, h.2.2.2.2.2.2.2.2⟩

theorem before_card {s : State} {w : Walk} {k : Ticket} {l : Link} {number : Nat} (r : s.WalkerReady w k)
    (h : s.resolveLink k.chainBase l = .card number ∧ (w.next = .repeatCard ∨ (k.count 0).toNat < k.cardLimit)
      ∧ ∀ j < 8, s.ram.faulty (32 * number + 4 * j) = false) : s.BeforeCard w k l number :=
  ⟨r, h.1, h.2.1, h.2.2⟩

/-- Tickets in the slots given. -/
def withTickets (s : State) (ks : List (Nat × Ticket)) : State := { s with unit := { s.unit with tickets := ks } }

/-- The words of the resume area of slot n, all readable. -/
def resumeArea (n : Nat) : List (Nat × Word) := (List.range 8).map fun j => (4096 + 128 * n + 96 + 4 * j, 0#32)

/-! ## Well-formedness: an ill-formed term for each check -/

theorem test_wf_read_unaligned : (Instr.hostRead 2#24).wf = false := by decide
theorem test_wf_write_unaligned : (Instr.hostWrite 1#24 0#32).wf = false := by decide
theorem test_wf_snoop_read_outside : (Instr.snoopRead 0x400000#24).wf = false := by decide
theorem test_wf_snoop_read_unaligned : (Instr.snoopRead 0x3#24).wf = false := by decide
theorem test_wf_snoop_write_outside : (Instr.snoopWrite 0x800000#24 0#32).wf = false := by decide
theorem test_wf_undefined_command_of_run : (Instr.undefinedCommand 1#4).wf = false := by decide
theorem test_wf_turn_seven : (Instr.turnStart 7#3).wf = false := by decide
theorem test_wf_turn_zero : (Instr.turnStart 0#3).wf = false := by decide
theorem test_wf_empty_frame : (Instr.replyReceived []).wf = false := by decide
theorem test_wf_snoop_read : (Instr.snoopRead 0x3FFFFC#24).wf = true := by decide

/-! ## Witnesses: step, host accesses, snoop -/

theorem witness_StepRunsFrontCommand : ({ State.reset with pending := [.run] } : State).pending = .run :: [] := by decide
theorem witness_IdleStepPassesTime :
    State.reset.pending = [] ∧ State.reset.time.timeSet = false ∧ halted.pending = [] ∧ halted.time.timeSet = true
      ∧ halted.load.isSome = true
      ∧ (let s := { filling running 600 with unit := { running.unit with sweepTimer := some 99 } }
        s.pending = [] ∧ s.unit.sweepTimer = some 99 ∧ s.time.periodOver = false
          ∧ s.cache.fill.all (fun f => f.arrived.length == 0) = true) := by decide +kernel
/-- The third quarter of a fill begun at Q2 is Q0, and a fault in it keeps the fill where it stands (R153). -/
theorem test_idle_fill_wraps :
    let s := withRam running ((List.range 16).map fun j => (65536 + 64 * 600 + 4 * j, BitVec.ofNat 32 j))
    let f := { someFill 600 with first := 2, arrived := [[8#32, 9#32, 10#32, 11#32], [12#32, 13#32, 14#32, 15#32]] }
    let u := { s with cache := { s.cache with fill := some f } }
    (after (step u)).map (fun t => t.cache.fill.map fun g => g.arrived.drop 2) = some (some [[0#32, 1#32, 2#32, 3#32]])
      ∧ (after (step (spoiled u (65536 + 64 * 600 + 12)))).map (fun t => t.cache.fill) = some (some f) := by decide +kernel
/-- The first and the last word of the RAM, neither in the directory area. -/
theorem witness_HostReadAnswersTheStoredWord :
    halted.host.held = [] ∧ (0 : Nat) < 1048576 ∧ 1048575 < 1048576 ∧ halted.inDirectory (4 * 0) = false
      ∧ halted.inDirectory (4 * 1048575) = false := by decide +kernel
theorem witness_HostWriteReplacesItsWord :
    halted.host.held = [] ∧ halted.ram.wf = true ∧ halted.inDirectory (4 * 0) = false
      ∧ halted.inDirectory (4 * 1048575) = false := by decide +kernel
/-- The ends of the three ranges that reach nothing. -/
theorem witness_RegistersReadTheirFields :
    [0x400000#24, 0x7FFFFC#24, 0xC00000#24, 0xEFFFFC#24, 0xF00018#24, 0xFFFFFC#24].all fun a =>
      (0x400000 ≤ a.toNat ∧ a.toNat < 0x800000) ∨ (0xC00000 ≤ a.toNat ∧ a.toNat < 0xF00000) ∨ 0xF00018 ≤ a.toNat := by
  decide +kernel
theorem witness_RegisterWritesAreTheirCommands :
    ∀ k ∈ [1, 2, 3, 4, 5, 6, 7], ((BitVec.ofNat 32 (16 * k)).extractLsb' 4 4).toNat = k := by decide
theorem witness_RegisterWritesAreTheirCommands_undefined :
    ∀ k ∈ [0, 8, 15], isUndefinedCode ((BitVec.ofNat 32 (16 * k)).extractLsb' 4 4) = true := by decide

/-- Index 0 stands DIRTY in way 0, index 64 CLEAN, index 128 in the push buffer, index 2,047 nowhere. -/
def cached : State :=
  { halted with
    cache := { Cache.reset with
      lines := [(0, someLine 0 3#4), (4, someLine 64 0#4)]
      pushBuffer := some (someLine 128 8#4) } }

theorem witness_SnoopReadFollowsItsTable :
    cached.host.held = []
      ∧ (∀ k ∈ [16384, 17408, 18432, 49151], cached.inDirectory (4 * k) = true ∧ cached.snoopWaits (4 * k) = false)
      ∧ cached.cache.find 0 = .dirty 0 (someLine 0 3#4) ∧ cached.cache.find 64 = .clean 4
      ∧ cached.cache.find 128 = .buffered (someLine 128 8#4) ∧ cached.cache.find 2047 = .notHeld := by decide +kernel
theorem witness_SnoopWriteFollowsItsTable :
    cached.host.held = []
      ∧ (∀ k ∈ [16384, 17408, 18432, 49151], cached.inDirectory (4 * k) = true ∧ cached.snoopWaits (4 * k) = false)
      ∧ (4 * 17408 - cached.directoryBase) / 64 = 64 ∧ (4 * 18432 - cached.directoryBase) / 64 = 128
      ∧ (4 * 49151 - cached.directoryBase) / 64 = 2047 := by decide +kernel

/-- A fill in progress, of a record of set 2, with no requester left. -/

theorem witness_SnoopOfTheRecordBeingFilledIsHeld :
    (filling halted 0).inDirectory (4 * 16384) = true ∧ (filling halted 0).cache.fill = some (someFill 0)
      ∧ (someFill 0).index = (4 * 16384 - (filling halted 0).directoryBase) / 64
      ∧ (let s := filling cached 300
        let t := { s with host := { s.host with active := some .dropAll, held := [.read 0x011000#24] } }
        t.inDirectory (4 * 16384) = true ∧ t.cache.fill = some (someFill 300) ∧ t.host.active = some .dropAll
          ∧ t.host.held ≠ []) := by decide +kernel

/-- A snoop write of a clean line: RAM takes the word and the line is dropped (R162). -/
theorem test_snoop_write_clean :
    (after (exec (.snoopWrite 0x011000#24 9#32) cached)).map (fun t => (t.ram.word 0x11000, t.cache.lines.length))
      = some (9#32, 1) := by decide +kernel
/-- A snoop read of a dirty line answers the line's word (R161). -/
theorem test_snoop_read_dirty :
    (after (exec (.snoopRead 0x010004#24) cached)).map (·.host.readData) = some (some 0x11#32) := by decide +kernel
theorem test_host_write_direct :
    (after (exec (.hostWrite 0x800010#24 0x01020304#32) halted)).map (fun t => (t.ram.byte 16, t.ram.byte 19))
      = some (4#8, 1#8) := by decide +kernel
theorem test_host_read_parity :
    (after (exec (.hostRead 0x000010#24) (spoiled (withRam halted [(16, 7#32)]) 16))).map
        (fun t => (t.host.readData, t.host.attention)) = some (some 7#32, 0x020#9) := by decide +kernel
theorem test_ident : (after (exec (.hostRead 0xF00000#24) State.reset)).map (·.host.readData) = some (some 0x41800001#32) := by
  decide +kernel
theorem test_other_register_write : after (exec (.otherRegisterWrite 5#32) halted) = some halted := by decide +kernel

/-! ## Witnesses: the arbiter, which RUN, SWEEP, parking and the end of a walk bring about -/

/-- No ticket; a walk in progress; not RUNNING; under HALT. -/
theorem witness_arbitrates_nothing :
    running.noneWaits ∧ ({ running with walk := some (Walk.start 0 .null) } : State).walk.isSome = true
      ∧ halted.host.runState ≠ .running
      ∧ ({ running with host := { running.host with active := some .halt } } : State).host.active = some .halt := by
  refine ⟨none_waits ?_, ?_⟩ <;> decide +kernel
/-- A QUEUED ticket of slot 31, before a PARKED one of a higher sequence; a PARKED one of slot 0, before one of the same
sequence in slot 31; an URGENT one before both. -/
theorem witness_arbitrates_starts :
    let q := someTicket .queued
    let p := someTicket .parked
    let u : Ticket := { q with cls := .urgent, sequence := 9#32 }
    (withTickets running [(0, { p with sequence := 8#32 }), (31, q)]).ranksFirst 31 q ∧ q.firstLink ≠ .null
      ∧ running.walk = none ∧ running.host.runState = .running ∧ running.host.active ≠ some .halt
      ∧ (let s := withTickets (withRam running (resumeArea 0)) [(0, p), (31, q)]
        s.ranksFirst 0 p ∧ ∀ j < 8, s.ram.faulty (s.ticketOffset 0 (96 + 4 * j)) = false)
      ∧ (withTickets running [(0, p), (5, u), (31, q)]).ranksFirst 5 u := by
  refine ⟨ranks_first ?_, ?_, ?_, ?_, ?_, ⟨ranks_first ?_, ?_⟩, ranks_first ?_⟩ <;> decide +kernel
/-- A NULL first link, and a parity fault in the last word of the resume area, each with no live entry, and with one when a
cancellation and an expiry wait. -/
theorem witness_arbitrates_ends :
    ∀ k ∈ [someTicket .queued, { someTicket .queued with tallies := (List.replicate 17 0#32).set 7 1#32, cancelled := true, expired := true }],
      let q : Ticket := { k with firstLink := .null }
      let p : Ticket := { k with state := .parked }
      let s := withEntries (withTicket running 31 q) [{ someEntry .waitingProbe with owner := 31 }]
      let f := spoiled (withTicket (withRam running (resumeArea 31)) 31 p) (4096 + 128 * 31 + 124)
      s.ranksFirst 31 q ∧ s.WalkMayEnd 31 q ∧ (∀ m j, m ≠ 31 → s.ticket m = some j → ¬ j.waits) ∧ q.state = .queued
        ∧ q.firstLink = .null ∧ f.ranksFirst 31 p ∧ f.WalkMayEnd 31 p
        ∧ (∀ m j, m ≠ 31 → f.ticket m = some j → ¬ j.waits) ∧ p.state = .parked
        ∧ ¬ ∀ j < 8, f.ram.faulty (f.ticketOffset 31 (96 + 4 * j)) = false := by
  intro k hk q p s f
  refine ⟨ranks_first ?_, may_end ?_, alone_of ?_, ?_, ?_, ranks_first ?_, may_end ?_, alone_of ?_, ?_, ?_⟩ <;>
    (revert k; decide +kernel)

/-! ## Witnesses: commands -/

theorem witness_ControlWritesAreRefusedInOrder :
    ({ halted with host := { halted.host with active := some .pushAll } } : State).host.active = some .pushAll
      ∧ ActiveCommand.pushAll ≠ .reload ∧ halted.host.active = none ∧ running.host.active = none
      ∧ isUndefinedCode 0#4 = true ∧ isUndefinedCode 8#4 = true
      ∧ running.host.runState ≠ .halted ∧ halted.host.runState ≠ .running
      ∧ State.reset.host.runState ≠ .halted ∧ State.reset.host.runState ≠ .running ∧ 31 < (32#8).toNat
      ∧ ({ halted with time := Timebase.reset } : State).time.timeSet = false := by decide +kernel
theorem witness_RunStartsScheduleAndSweep :
    halted.host.active = none ∧ halted.host.runState = .halted ∧ halted.time.timeSet = true ∧ halted.air.radio = .off
      ∧ (let f := { halted with air := { AirLink.reset with radio := .fault } }
        f.host.active = none ∧ f.host.runState = .halted ∧ f.time.timeSet = true ∧ f.air.radio = .fault
          ∧ f.air.restartMark = false)
      ∧ (let m := { halted with air := { AirLink.reset with radio := .fault, restartMark := true } }
        m.air.radio = .fault ∧ m.air.restartMark = true) := by decide +kernel
/-- A QUEUED ticket in slot 31 of a HALTED part. -/
theorem witness_RunStartsScheduleAndSweep_walk :
    let s := withTicket halted 31 (someTicket .queued)
    s.host.active = none ∧ s.host.runState = .halted ∧ s.time.timeSet = true ∧ s.walk = none
      ∧ s.ranksFirst 31 (someTicket .queued) := by
  refine ⟨?_, ?_, ?_, ?_, ranks_first ?_⟩ <;> decide +kernel
theorem witness_HaltWaitsForThePeriodsEnd :
    running.host.active = none ∧ running.host.runState = .running ∧ running.walk = none ∧ running.time.periodOver = false
      ∧ ({ running with time := { running.time with periodOver := true } } : State).time.periodOver = true := by
  decide +kernel
/-- A walk of slot 0 with a phase, beside an URGENT ticket in slot 31. -/
def walking (phase : WalkPhase) (park : Bool) : State :=
  { withTickets running [(0, someTicket .walking), (31, { someTicket .queued with cls := .urgent })] with
    walk := some { Walk.start 0 (.short 0#16) with fresh := false, parkRequest := park, phase := phase } }

def anApplication : Application := { card := ⟨1#32, 0#32, 5#32, 0#32, 0#32⟩, cardNumber := 512, index := 5, fromEntry := true }
def aStaging : Staging := { ident := 300117#24, image := ⟨5, 0, 0, 0#8⟩, clamped := false, raw := 5, version := 42#16 }

/-- A card in progress, a turn stall, a boundary with no request and with one to obey, and a room stall with each. -/
theorem witness_HaltWaitsForThePeriodsEnd_walk :
    (∀ phase ∈ [.turnStall anApplication false, .reading anApplication, .writing anApplication aStaging,
        .iterating anApplication.card 512, .ready, .roomStall anApplication false], ∀ park ∈ [true, false],
      let s := walking phase park
      s.host.active = none ∧ s.host.runState = .running ∧ s.time.periodOver = false ∧ s.walk.isSome = true
        ∧ s.walk.all (fun w => w.endRequest == none && w.phase == phase && w.parkRequest == park) = true
        ∧ rising s.unit.tickets = true ∧ s.ticket 0 = some (someTicket .walking)
        ∧ s.ticket 31 = some { someTicket .queued with cls := .urgent })
      ∧ halted.host.runState ≠ .running := by decide +kernel

theorem witness_ReloadClearsTheChip :
    halted.host.active = none ∧ halted.cache.fill = none ∧ halted.cache.pushBuffer = none ∧ halted.cache.lines = []
      ∧ (filling halted 0).cache.fill.isSome = true
      ∧ (∃ p ∈ (withLines halted [(0, someLine 0 3#4)]).cache.lines, p.2.dirty ≠ 0#4) := by
  refine ⟨rfl, rfl, rfl, rfl, rfl, (0, someLine 0 3#4), ?_, ?_⟩ <;> decide
theorem witness_PushAllMarksDirtyLines :
    halted.host.active = none ∧ halted.host.runState = .halted ∧ halted.cache.lines = [] ∧ halted.cache.pushBuffer = none
      ∧ running.host.runState = .running ∧ cached.host.active = none ∧ cached.cache.pushBuffer.isSome = true := by
  decide +kernel
theorem witness_DropAllInvalidatesEveryWay :
    cached.host.active = none ∧ cached.host.runState = .halted ∧ cached.cache.fill = none
      ∧ (filling cached 300).cache.fill.isSome = true := by decide +kernel

theorem test_run_without_time :
    (after (exec .run { halted with time := Timebase.reset })).map (·.host.lastResult) = some .noTime := by decide +kernel
theorem test_run : (after (exec .run halted)).map (fun t => (t.host.runState, t.air.radio, t.time.nextCycle))
    = some (.running, .active, 1#16) := by decide +kernel
theorem test_halt : (after (exec .halt running)).map (fun t => (t.host.active, t.unit.sweepTimer)) = some (some .halt, none) := by
  decide +kernel
theorem test_reload : (after (exec .reload running)).map (fun t => (t.host.runState, t.loader, t.air.radio))
    = some (.loading, .checking, .off) := by decide +kernel
theorem test_push_all : (after (exec .pushAll cached)).map (fun t => (t.host.active, t.cache.sweeper))
    = some (some .pushAll, some 0) := by decide +kernel
theorem test_drop_all : (after (exec .dropAll cached)).map (fun t => (t.host.lastResult, t.cache.lines)) = some (.done, []) := by
  decide +kernel
theorem test_undefined_command :
    (after (exec (.undefinedCommand 9#4) running)).map (fun t => (t.host.lastCommand, t.host.lastResult))
      = some (9#4, .badArgument) := by decide +kernel
theorem test_reset_refuses_cancel :
    (after (exec (.cancel 0#8) State.reset)).map (·.host.lastResult) = some .wrongState := by decide +kernel

theorem witness_CancelOfASlotNotHeld :
    let s := withRam running [(4096 + 128 * 31, 1#32), (4096, 5#32)]
    s.host.active = none ∧ s.host.runState = .running ∧ s.ticket 31 = none ∧ s.ticketFaulty 31 0 = false
      ∧ s.ticketWord 31 0 = 1#32 ∧ s.boardBase % 4 = 0 ∧ s.ram.wf = true
      ∧ s.ticket 0 = none ∧ s.ticketFaulty 0 0 = false ∧ s.ticketWord 0 0 ≠ 1#32
      ∧ (spoiled s 4096).ticketFaulty 0 0 = true := by decide +kernel
theorem witness_QueuedTicketsSettleAtOnce :
    let k := { someTicket .queued with expiryDue := true }
    let s := withTicket running 0 k
    s.ticket 0 = some k ∧ k.state = .queued ∧ rising s.unit.tickets = true ∧ s.ram.wf = true ∧ s.boardBase % 4096 = 0
      ∧ s.host.active = none
      ∧ s.host.runState = .running ∧ k.expiryDue = true ∧ k.expired = false := by decide +kernel
/-- A removal outside a turn, and turns whose write-backs close the entry; a Q2 read with a primary of 0; a ticket with one
live entry, and one with two, one of whom stays. -/
theorem witness_QueuedTicketsSettleAtOnce_removals :
    let k : Ticket := { someTicket .delivering with tallies := (List.replicate 17 0#32).set 7 1#32 }
    let more : Ticket := { k with tallies := k.tallies.set 7 2#32 }
    let e := { someEntry .heldStaged with removing := some (.unconfirmed true) }
    let s := withEntries (withTicket running 3 k) [e]
    s.entry 5 = some e ∧ e.turn = none ∧ e.removing = some (.unconfirmed true)
      ∧ (∀ c ∈ [Closing.confirmed, .alreadyShown, .cancelled, .noReply 3, .rejected 41#16],
        let wb : WriteBack := { confirm := true, delivery := some .confirmed, after := .closes c }
        let b := { someEntry .waitingProbe with turn := some (.writingBack wb) }
        let u := withEntries (withTicket running 3 more) [b]
        u.entry 5 = some b ∧ wb.after = .closes c
          ∧ ((u.tallied 3 c.place).ticket 3).map (fun k => (k.state, k.liveEntries)) = some (ContextState.delivering, 1#32))
      ∧ ((List.replicate 16 0#32).getD 8 0#32).extractLsb' 0 24 = 0#24
      ∧ s.ticket e.owner = some k ∧ k.tallies.length = 17 ∧ e.owner < 32 ∧ rising s.unit.tickets = true ∧ s.ram.wf = true
      ∧ s.boardBase % 4096 = 0
      ∧ (let u := (s.writeException 3 ⟨5, 300117#24, .withdrawFailed, none, 42#32⟩).tallied 3 9
        (u.ticket 3).map (fun k => (k.state, k.liveEntries)) = some (.delivering, 0#32)) := by decide +kernel
/-- A confirmed change counts one confirmed and its ticket settles (R50, R122). -/
theorem test_removal_settles :
    let s := withEntries (withTicket running 3 { someTicket .delivering with tallies := (List.replicate 17 0#32).set 7 1#32 })
      [{ someEntry .waitingUpdate with removing := some .missed }]
    let t := s.deliver { index := 5, op := .countMiss, purpose := .deliveryState } .fault 0#24
    t.ticketWord 3 0 = 5#32 ∧ t.ticketWord 3 64 = 1#32 ∧ t.roster.entries = [] := by decide +kernel
theorem test_cancel_posted :
    (after (exec (.cancel 3#8) (withRam running [(4480, 1#32)]))).map (fun t => (t.ticketWord 3 0, t.ticketWord 3 12))
      = some (5#32, 3#32) := by decide +kernel

/-- A radio in FAULT with its restart mark set, at the end of slot 63, and HALTED. -/
def faulted : State :=
  { running with
    air := { running.air with radio := .fault, restartMark := true }
    time := { running.time with position := .slot 63, periodOver := true } }

theorem witness_RadioRestartMarksAFault :
    faulted.host.active = none ∧ faulted.host.runState = .running ∧ faulted.air.radio = .fault
      ∧ faulted.air.restartMark = true ∧ faulted.host.active ≠ some .halt ∧ faulted.time.position = .slot 63
      ∧ faulted.time.periodOver = true ∧ running.air.radio ≠ .fault
      ∧ ({ halted with air := faulted.air } : State).air.radio = .fault ∧ halted.host.runState = .halted
      ∧ halted.time.timeSet = true := by decide +kernel
theorem test_radio_restart_in_active :
    (after (exec .radioRestart running)).map (·.host.lastResult) = some .wrongState := by decide +kernel
theorem test_key_monitor_trip :
    (after (exec .keyMonitorTrip running)).map (fun t => (t.air.radio, t.host.attention)) = some (.fault, 0x040#9) := by
  decide +kernel

/-! ## Witnesses: time and sweeps -/

theorem witness_StoreTimeEventsMoveTheClock : State.reset.time.timeSet = false ∧ halted.time.timeSet = true := by
  decide +kernel
/-- A window from 20:00 to 07:00 and one from 01:00 to 02:00, and an invalid one. -/
theorem witness_LiveRushFollowsTheWindowTable :
    halted.time.timeSet = true ∧ State.reset.load = none ∧ halted.load = some settings
      ∧ settings.rushEnd < settings.rushStart ∧ settings.rushStart < 86400
      ∧ (3600 : Nat) < 7200 ∧ (7200 : Nat) < 86400 ∧ 86400 ≤ ({ settings with rushEnd := 86400 } : Load).rushEnd := by
  decide +kernel
/-- R27: 1,000,000 s is day 11, 13:46:40; the window from 20:00 to 07:00 is closed then. -/
theorem test_rush_closed_at_noon : rushAt 72000 25200 1000000#32 = .closed := by decide +kernel
theorem test_rush_before_midnight : rushAt 72000 25200 (BitVec.ofNat 32 (11 * 86400 + 72000)) = .openDay 11 := by decide +kernel
theorem test_rush_after_midnight : rushAt 72000 25200 (BitVec.ofNat 32 (12 * 86400 + 25199)) = .openDay 11 := by decide +kernel
theorem test_rush_on_day_zero : rushAt 72000 25200 100#32 = .closed := by decide +kernel
theorem test_second_tick : (after (exec .secondTick halted)).map (·.time.storeTime) = some 1000001#32 := by decide +kernel
theorem test_store_time_write :
    (after (exec (.storeTimeWrite 0#32) State.reset)).map (fun t => (t.time.timeSet, t.time.storeTime)) = some (true, 0#32) := by
  decide +kernel
theorem test_attention_write :
    (after (exec (.attentionWrite 0x3#32) { halted with host := { halted.host with attention := 0x106#9 } })).map
      (·.host.attention) = some 0x104#9 := by decide +kernel
theorem test_attn_enable_write :
    (after (exec (.attnEnableWrite 0xFFF#32) halted)).map (·.host.enable) = some 0x1FF#9 := by decide +kernel

theorem witness_SweepRequestsStartOrMark :
    halted.host.runState ≠ .running ∧ running.host.runState = .running ∧ running.host.active ≠ some .halt
      ∧ running.unit.sweepActive = false ∧ running.unit.sweepTimer.isSome = true
      ∧ ({ running with unit := { running.unit with sweepActive := true } } : State).unit.sweepActive = true := by
  decide +kernel
theorem test_nudge : (after (exec (.nudge 1#32) running)).map (·.unit.sweepActive) = some true := by decide +kernel
theorem test_sweep_timer_expiry :
    (after (exec .sweepTimerExpiry { running with unit := { running.unit with sweepActive := true } })).map
      (·.unit.sweepPending) = some true := by decide +kernel

/-- A board of FREE words, with some words of some tickets. -/
def board (ws : List (Nat × Word)) : List (Nat × Word) := (List.range 32).map (fun n => (4096 + 128 * n, 0#32)) ++ ws

def sweeping (ws : List (Nat × Word)) : State :=
  { withRam running (board ws) with unit := { running.unit with sweepActive := true, sweepPending := true } }

theorem witness_SweepsReadTheBoard :
    let s := sweeping [(4096, 5#32)]
    s.unit.sweepActive = true ∧ s.noneWaits ∧ ∀ n < 32, s.slotAgrees n := by
  refine ⟨by decide +kernel, none_waits (by decide +kernel), fun n hn => ?_⟩
  have h : ∀ n < 32, (sweeping [(4096, 5#32)]).ticketFaulty n 0 = false ∧ (sweeping [(4096, 5#32)]).ticket n = none
      ∧ ((sweeping [(4096, 5#32)]).ticketWord n 0 = 0#32 ∨ (sweeping [(4096, 5#32)]).ticketWord n 0 = 5#32) := by
    decide +kernel
  obtain ⟨h1, h2, h3⟩ := h n hn
  refine ⟨h1, ?_⟩
  rw [h2]
  exact h3
/-- The three kinds of disagreement: a fault, a part-owned word with no ticket, a word that is not the held ticket's. -/
theorem witness_SweepsReadTheBoard_clashes :
    (spoiled (sweeping []) 4096).ticketFaulty 0 0 = true
    ∧ (let s := sweeping [(4096 + 128 * 31, 2#32)]
      s.ticketFaulty 31 0 = false ∧ s.ticket 31 = none ∧ s.ticketWord 31 0 = 2#32)
    ∧ (let s := withTicket (sweeping [(4096, 0#32)]) 0 (someTicket .delivering)
      s.ticketFaulty 0 0 = false ∧ s.ticket 0 = some (someTicket .delivering)
        ∧ s.ticketWord 0 0 ≠ (someTicket .delivering).state.word) := by decide +kernel
theorem test_sweep_clash :
    (after (exec .sweep (sweeping [(4224, 9#32)]))).map (fun t => (t.host.attention, t.ticketWord 1 0)) = some (0x008#9, 9#32) := by
  decide +kernel

/-- The host fields of a ticket as its record holds them. -/
def postingIn (n : Nat) (sequence classAndLimit deadline : Word) : List (Nat × Word) :=
  let p := 4096 + 128 * n
  [(p, 1#32), (p + 4, sequence), (p + 92, 16384#32), (p + 96, 0x20000#32), (p + 100, classAndLimit), (p + 104, 0#32),
    (p + 108, deadline), (p + 112, 24576#32), (p + 116, 4#32)]

/-- The same in slot 31. -/
def posting (classAndLimit deadline : Word) : List (Nat × Word) := postingIn 31 7#32 classAndLimit deadline

/-- Slots 4 and 9 are taken in one sweep, and the arbiter chooses slot 9 for its lower sequence (03, "Three Tickets on One
Board"). -/
theorem test_sweep_chooses_lowest_sequence :
    (after (exec .sweep (sweeping (postingIn 4 1001#32 40#32 0#32 ++ postingIn 9 1000#32 40#32 0#32)))).map (fun t =>
      (t.ticketWord 4 0, t.ticketWord 9 0, t.walk.map (·.slot))) = some (1#32, 2#32, some 9) := by decide +kernel

/-- Each check of R38 in its order, each failing at a boundary: class 2, a chain base off 32, a card limit of 0, a first link
of form 3, a list off 16, and a deadline one second before the activation time; then a deadline just come. -/
theorem witness_PostedTicketsAreTakenOrMalformed :
    let at_ := 4096 + 128 * 31
    (∀ c ∈ [(40#32, 0#32, [(at_ + 100, 0x02000028#32)], some Reason.badClass), (40#32, 0#32, [(at_ + 92, 16400#32)], some .badChain),
        (0#32, 0#32, [], some .badLimit), (40#32, 0#32, [(at_ + 96, 0x60000#32)], some .badLink),
        (40#32, 0#32, [(at_ + 112, 24584#32)], some .badList), (40#32, 1000001#32, [(at_ + 104, 1000002#32)], some .badTimes),
        (40#32, 1000000#32, [], none), (40#32, 1000001#32, [], none), (0x01000028#32, 0#32, [], none)],
      let s := withRam running (posting c.1 c.2.1 ++ c.2.2.1)
      s.load = some settings ∧ s.ticket 31 = none ∧ s.ticketFaulty 31 0 = false ∧ s.ticketWord 31 0 = 1#32
        ∧ s.boardBase % 4 = 0 ∧ s.ram.wf = true
        ∧ (∀ off ∈ [4, 92, 96, 100, 104, 108, 112, 116], s.ticketFaulty 31 off = false)
        ∧ s.ticketFault (s.readTicket 31) = c.2.2.2)
      ∧ (spoiled (withRam running (posting 40#32 0#32)) (at_ + 116)).ticketFaulty 31 116 = true
      ∧ running.time.storeTime = 1000000#32 := by decide +kernel
/-- An URGENT ticket in slot 31, beside an OVERNIGHT walk of slot 0 in each phase. -/
theorem witness_PostedTicketsAreTakenOrMalformed_parking :
    ∀ phase ∈ [.turnStall anApplication false, .reading anApplication, .writing anApplication aStaging,
        .iterating anApplication.card 512, .ready, .roomStall anApplication false],
      let s := { withRam (withTicket running 0 (someTicket .walking)) (posting 0x01000028#32 0#32) with
        walk := some { Walk.start 0 (.short 0#16) with fresh := false, phase := phase } }
      s.ticket 31 = none ∧ s.ticket 0 = some (someTicket .walking) ∧ (someTicket .walking).cls = .overnight
        ∧ s.ticketWord 31 100 = 0x01000028#32 := by decide +kernel
/-- A card limit of 0 settles MALFORMED with reason BAD_LIMIT (R38). -/
theorem test_bad_limit :
    ((withRam running (posting 0#32 0#32)).sweepSlot 31).ticketWord 31 12 = 0x0706#32 := by decide +kernel

theorem witness_ExceptionEntriesFillTheList :
    let s := withTicket running 31 (someTicket .walking)
    s.ticket 31 = some (someTicket .walking) ∧ s.boardBase % 4 = 0 ∧ s.ram.wf = true
      ∧ (0#16).toNat < (someTicket .walking).listCapacity ∧ (someTicket .walking).listCapacity ≤ 4095
      ∧ (someTicket .walking).listAddress % 16 = 0 ∧ s.boardBase + 4096 ≤ (someTicket .walking).listAddress
      ∧ ({ someTicket .walking with listCapacity := 0 } : Ticket).listCapacity ≤ (0#16).toNat := by decide +kernel

theorem witness_InterruptedTicketsBalance :
    let m := ramOf ((List.range 9).map fun k => (4096 + 52 + 4 * k, 1#32))
    4096 % 4 = 0 ∧ m.wf = true ∧ (∀ k < 9, m.faulty (4096 + 52 + 4 * k) = false)
      ∧ (spoil m (4096 + 84)).wf = true ∧ (spoil m (4096 + 84)).faulty (4096 + 52 + 4 * 8) = true
      ∧ ((List.range 8).map fun k => (m.word (4096 + 56 + 4 * k)).toNat).sum < 2 ^ 32
      ∧ (let big := ramOf [(4096 + 56, 0xFFFFFFFF#32), (4096 + 60, 1#32)]
        big.wf = true ∧ 2 ^ 32 ≤ (big.word (4096 + 56)).toNat + (big.word (4096 + 60)).toNat) := by decide +kernel
/-- The first closing tally faulted: it counts 0 and is written 0, entered 9 less the other seven is 2, and MEMORY_FAULT is
latched beside SETTLED (R55). -/
theorem test_interrupted_with_a_faulted_tally :
    let s := withRam running ((4096 + 52, 9#32) :: (List.range 8).map fun k => (4096 + 56 + 4 * k, 1#32))
    let t := (spoiled s (4096 + 56)).interruptTicket 4096
    t.ram.word (4096 + 56) = 0#32 ∧ t.ram.word (4096 + 60) = 1#32 ∧ t.ram.word (4096 + 88) = 2#32
      ∧ t.host.attention = s.host.attention ||| 0x014#9 := by decide +kernel
/-- The ends of the part-owned words, FREE and SETTLED, the first word of no state, and a fault. -/
theorem witness_InterruptedTicketsBalance_slots :
    (withRam running [(8064, 2#32)]).ram.word 8064 = 2#32 ∧ (withRam running [(8064, 4#32)]).ram.word 8064 = 4#32
      ∧ (withRam running [(8064, 0#32)]).ram.word 8064 = 0#32 ∧ (withRam running [(8064, 5#32)]).ram.word 8064 = 5#32
      ∧ (withRam running [(8064, 6#32)]).ram.word 8064 = 6#32 ∧ (withRam running [(8064, 6#32)]).ram.faulty 8064 = false
      ∧ (spoiled running 8064).ram.faulty 8064 = true ∧ 4096 + 128 * 31 = 8064 := by decide +kernel
/-! ## Witnesses: the Delivery Roster -/

/-- An entry of index 5 in each state. -/
theorem witness_ExpiryAndCancellationActByState :
    ∀ st ∈ [EntryState.waitingUpdate, .heldStaged, .waitingProbe, .waitingWithdraw],
      (withEntries running [someEntry st]).entry 5 = some (someEntry st) ∧ (withEntries running [someEntry st]).oneEntryEach = true
        ∧ (someEntry st).removing = none ∧ (someEntry st).turn = none ∧ (someEntry st).decision = none
        ∧ (someEntry st).activation = 0#32 := by
  decide +kernel
/-- In removal; in a turn; and an activation time one second after the cycle's store time. -/
theorem witness_ExpiryAndCancellationActByState_others :
    (let e := { someEntry .heldStaged with removing := some .missed };
      (withEntries running [e]).entry 5 = some e ∧ e.removing.isSome = true)
    ∧ (let e := { someEntry .waitingProbe with turn := some .exchanging };
      (withEntries running [e]).entry 5 = some e ∧ e.removing = none ∧ e.turn.isSome = true)
    ∧ (let e := { someEntry .waitingProbe with activation := 1000001#32 };
      (withEntries running [e]).entry 5 = some e ∧ e.activation ≠ 0#32
        ∧ running.time.cycleTime.toNat < e.activation.toNat) := by decide +kernel
/-- The Q0 to Q3 words of a record: a primary, and the digest of Q1's version. -/
def recordOf (ident primary : Word) : List Word :=
  (List.replicate 16 0#32).set 0 ident |>.set 4 primary |>.set 8 primary |>.set 7 41#32

def applying (w0 w8 : Word) (fromEntry : Bool) : Application := ⟨⟨w0, 0x20001#32, w8, 0xFFFFFFFF#32, 0#32⟩, 512, 5, fromEntry⟩

/-- A PRICE card of 199 and a percent card of +1% on records whose labels show 0, 5 and 199: each answer of the engine, with
and without an entry; a vacant and a damaged record. -/
theorem witness_ExpiryAndCancellationActByState_answers :
    (∀ fromEntry ∈ [true, false],
      ∀ c ∈ [(0x00050002#32, CardKind.adjustPercent, 100#32, 0#32, EngineAnswer.badBase),
          (0x00050401#32, .price, 199#32, 5#32, .notApplied), (0x00050001#32, .price, 199#32, 199#32, .same),
          (0x00050001#32, .price, 199#32, 5#32, .newImage ⟨199, 0, 0, 0#8⟩ false 199)],
        let app := applying c.1 c.2.2.1 fromEntry
        let s := walking (.reading app) false
        s.walk.map (·.phase) = some (.reading app) ∧ s.ticket 0 = some (someTicket .walking)
          ∧ (someTicket .walking).tallies.length = 17 ∧ (app.card.w0.extractLsb' 0 8).toNat = c.2.1.number
          ∧ evaluate (app.asks c.2.1 (recordOf 300117#32 c.2.2.2.1)) = c.2.2.2.2)
      ∧ ((recordOf 0#32 5#32).getD 0 0#32).extractLsb' 0 24 = 0#24
      ∧ ((recordOf 0xFFFFFF#32 5#32).getD 0 0#32).extractLsb' 0 24 = 0xFFFFFF#24
      ∧ ((recordOf 300117#32 5#32).getD 0 0#32).extractLsb' 0 24 = 300117#24 := by decide +kernel
/-- A record read that is answered while a cancellation, or an expiry, of its walk is held. -/
def endingRead (o : TicketOutcome) : State :=
  let s := walking (.reading (applying 1#32 199#32 false)) false
  { s with walk := s.walk.map fun w => { w with endRequest := some o } }

theorem witness_ExpiryAndCancellationActByState_ending :
    ∀ o ∈ [TicketOutcome.cancelled, .expired],
      (endingRead o).walk.map (fun w => (w.phase, w.endRequest)) = some (.reading (applying 1#32 199#32 false), some o)
        ∧ (endingRead o).WalkMayEnd 0 (someTicket .walking) ∧ (1#32 : Word).extractLsb' 0 8 = 1#8 := by
  refine fun o ho => ⟨?_, may_end ?_, rfl⟩ <;> (revert o; decide +kernel)
/-- The application is abandoned unreported: the ticket settles CANCELLED with no tally, and no entry comes (R73, R82). -/
theorem test_cancelled_read_is_abandoned :
    let t := (endingRead .cancelled).deliver ⟨5, .read [0, 1, 3], .recordRead⟩ (.served (recordOf 300117#32 5#32) [0, 1, 3]) 0#24
    (t.ticket 0).isNone = true ∧ t.ticketWord 0 12 = 3#32 ∧ t.ticketWord 0 28 = 0#32 ∧ t.roster.newEntry = none
      ∧ t.cache.walkerRequest = none := by decide +kernel
/-- A new image meets no entry, one that has none of turn, removal and decision, and one with each. -/
theorem witness_ExpiryAndCancellationActByState_entered :
    (walking (.reading (applying 1#32 199#32 true)) false).entry 5 = none
      ∧ ∀ e ∈ [someEntry .waitingUpdate, { someEntry .waitingProbe with turn := some .exchanging },
          { someEntry .heldStaged with removing := some .missed },
          { someEntry .waitingProbe with decision := some ⟨31, .overnight, 0#32, 43#16⟩ }],
        (withEntries (walking (.reading (applying 1#32 199#32 true)) false) [e]).entry 5 = some e := by decide +kernel
/-- Entries of ticket 3, OVERNIGHT, none of them of index 5. -/
def crowd (n : Nat) : List Entry := List.replicate n { someEntry .waitingUpdate with index := 69 }

theorem crowd_holds (s : State) (n : Nat) :
    (withEntries s (crowd n)).entry 5 = none ∧ n ≤ (withEntries s (crowd n)).roster.entries.length
      ∧ n ≤ ((withEntries s (crowd n)).roster.entries.filter fun e => e.cls == .overnight).length
      ∧ ∀ e : Entry, e.index = 5 → (withEntries s (e :: crowd n)).entry 5 = some e
        ∧ n ≤ ((withEntries s (e :: crowd n)).roster.entries.filter fun e => e.cls == .overnight).length := by
  refine ⟨?_, ?_, ?_, fun e he => ⟨?_, ?_⟩⟩
  · simp [State.entry, withEntries, crowd, someEntry]
  · simp [withEntries, crowd]
  · simp [withEntries, crowd, someEntry]
  · simp [State.entry, withEntries, he]
  · simp only [withEntries, crowd, someEntry, List.filter_cons, List.filter_replicate]
    split <;> simp

/-- An URGENT entry of index 5. -/
def urgentEntry : Entry := { someEntry .waitingUpdate with cls := .urgent }

/-- A Roster of 4,096 entries; one of 3,840 OVERNIGHT ones, and the same with an URGENT entry of the card's own index. -/
theorem witness_ExpiryAndCancellationActByState_full (s : State) :
    ((withEntries s (crowd 4096)).entry 5 = none ∧ 4096 ≤ (withEntries s (crowd 4096)).roster.entries.length)
      ∧ ((withEntries s (crowd 3840)).entry 5 = none
        ∧ 3840 ≤ ((withEntries s (crowd 3840)).roster.entries.filter fun e => e.cls == .overnight).length)
      ∧ (withEntries s (urgentEntry :: crowd 3840)).entry 5 = some urgentEntry
      ∧ 3840 ≤ ((withEntries s (urgentEntry :: crowd 3840)).roster.entries.filter fun e => e.cls == .overnight).length
      ∧ (someTicket .walking).cls = .overnight ∧ urgentEntry.cls = .urgent ∧ urgentEntry.turn = none
      ∧ urgentEntry.removing = none ∧ urgentEntry.decision = none := by
  obtain ⟨-, -, -, h⟩ := crowd_holds s 3840
  exact ⟨⟨(crowd_holds s 4096).1, (crowd_holds s 4096).2.1⟩, ⟨(crowd_holds s 3840).1, (crowd_holds s 3840).2.2.1⟩,
    (h urgentEntry rfl).1, (h urgentEntry rfl).2, by decide +kernel⟩
/-- The Q2 write of a walk under way. -/
theorem witness_ExpiryAndCancellationActByState_staged :
    let app : Application := ⟨⟨0x00050001#32, 0x20001#32, 199#32, 0#32, 0#32⟩, 512, 5, false⟩
    let s := walking (.writing app aStaging) false
    s.walk.map (·.phase) = some (.writing app aStaging)
      ∧ s.ticket 0 = some (someTicket .walking) ∧ (∀ p ∈ s.unit.tickets, p.2.tallies.length = 17) := by decide +kernel

def aDecision (ticket : Nat) (cls : TicketClass) : Decision :=
  { ticket := ticket, cls := cls, activation := 0#32, version := 43#16 }

/-- A new entry; and an entry of ticket 3 with a decision of its own ticket, of another of its class, and of an URGENT one,
with both actions deferred. -/
theorem witness_ExpiryAndCancellationActByState_decided :
    (let m : NewEntry :=
        { index := 5, ident := 300117#24, slot := 40, phase := 0, exponent := 0, rushing := false, rushDay := 0,
          decision := aDecision 31 .overnight }
      let s := { withTicket running 31 (someTicket .walking) with roster := { entries := [], newEntry := some m } }
      s.roster.newEntry = some m ∧ s.ticket 31 = some (someTicket .walking) ∧ (someTicket .walking).tallies.length = 17
        ∧ (someTicket .walking).state ≠ .delivering)
    ∧ ∀ d ∈ [aDecision 3 .overnight, aDecision 31 .overnight, aDecision 31 .urgent],
      let e := { someEntry .waitingProbe with decision := some d, deferCancel := true, deferExpiry := true }
      let s := withEntries (withTickets running [(3, someTicket .parked), (31, someTicket .walking)]) [e]
      s.roster.newEntry = none ∧ s.oneEntryEach = true ∧ s.entry 5 = some e ∧ e.decision = some d
        ∧ (∀ n ∈ [e.owner, d.ticket], (s.ticket n).all fun k =>
          k.tallies.length == 17 && k.state != .delivering) := by decide +kernel
/-- Ticket 3 DELIVERING, its expiry due, with one entry. -/
def expiring : State :=
  withEntries (withTicket running 3 { someTicket .delivering with expiryDue := true }) [someEntry .heldStaged]

theorem witness_ExpiryReachesEveryEntry :
    expiring.ticket 3 = some { someTicket .delivering with expiryDue := true } ∧ expiring.oneEntryEach = true
      ∧ (someTicket .delivering).state = .delivering ∧ (someTicket .delivering).expired = false := by decide +kernel
/-- CANCEL of a ticket with entries in every case of R124; and of one already expired, and one already cancelled. -/
theorem witness_ExpiryReachesEveryEntry_cancel :
    let at_ := fun (i : Nat) (e : Entry) => { e with index := i }
    let wide := [at_ 5 (someEntry .waitingUpdate), at_ 6 (someEntry .heldStaged),
      at_ 7 { someEntry .waitingProbe with activation := 1000001#32 }, at_ 8 { someEntry .waitingProbe with activation := 1000000#32 },
      at_ 9 (someEntry .waitingWithdraw), at_ 10 { someEntry .waitingProbe with turn := some .exchanging },
      at_ 11 { someEntry .heldStaged with removing := some .missed }]
    let s := withEntries (withTicket running 3 (someTicket .delivering)) wide
    s.ticket 3 = some (someTicket .delivering) ∧ s.host.active = none ∧ s.host.runState = .running
      ∧ (someTicket .delivering).cancelled = false ∧ (someTicket .delivering).expired = false ∧ s.oneEntryEach = true
      ∧ ({ someTicket .parked with expired := true } : Ticket).state ≠ .queued
      ∧ ({ someTicket .delivering with cancelled := true } : Ticket).state = .delivering := by decide +kernel
/-- A WALKING ticket, its card in progress or at rest, and a PARKED one, each with its expiry due, with no live entry, and with
one that CANCEL or the expiry meets. -/
theorem witness_ExpiryReachesEveryEntry_walks :
    ∀ tallies ∈ [List.replicate 17 0#32, (List.replicate 17 0#32).set 7 1#32],
      (∀ phase ∈ [.reading anApplication, .writing anApplication aStaging, .iterating anApplication.card 512, .ready,
          .roomStall anApplication false, .turnStall anApplication false],
        let k := { someTicket .walking with expiryDue := true, tallies := tallies }
        let s := withEntries
          { withTicket running 0 k with walk := some { Walk.start 0 (.short 0#16) with phase := phase } }
          [{ someEntry .waitingUpdate with owner := 0 }]
        s.ticket 0 = some k ∧ s.walk.map (fun w => (w.slot, w.phase)) = some (0, phase) ∧ k.cancelled = false
          ∧ k.expired = false ∧ s.host.active = none ∧ rising s.unit.tickets = true ∧ s.ram.wf = true
          ∧ s.boardBase % 4096 = 0 ∧ s.oneEntryEach = true)
        ∧ (let k := { someTicket .parked with expiryDue := true, tallies := tallies }
          let s := withEntries (withTicket halted 31 k) [{ someEntry .waitingUpdate with owner := 31 }]
          s.ticket 31 = some k ∧ s.host.runState = .halted ∧ s.host.active = none
            ∧ s.WalkMayEnd 31 k) := by
  intro tallies ht
  refine ⟨?_, ?_, ?_, ?_, may_end ?_⟩ <;> (revert tallies; decide +kernel)
theorem test_ticket_expiry :
    (after (exec (.ticketExpiry 3#5) expiring)).map (fun t => t.roster.entries.map (·.removing))
      = some [some (.unconfirmed false)] := by decide +kernel

/-- A turn of the entry of index 5. -/
def someTurn (frame : TurnFrame) (content : TurnContent) : AirTurn :=
  { number := 1, frame := frame, index := 5, ident := 300117#24, version := 42#16, activation := 0#32, content := content,
    reported := false }

/-- The entry is in turn 1 of slot 40. -/
def inTurn (st : EntryState) (frame : TurnFrame) (stage : AirStage) (content : TurnContent) : State :=
  withEntries
    { running with
      time := { running.time with position := .slot 40 }
      air := { running.air with stage := stage, turns := [someTurn frame content] } }
    [{ someEntry st with turn := some .exchanging }]

def someReply (result : ReplyResult) (displayed : BitVec 16) (staged : Option (BitVec 16)) : Reply :=
  { result := result, displayed := displayed, staged := staged, battery := 9#4, rushing := false, quality := 180#8 }

theorem awaits (st : EntryState) (frame : TurnFrame) :
    (inTurn st frame (.serving 1 true) (.ready [])).awaitsReply (someTurn frame (.ready []))
      { someEntry st with turn := some .exchanging } := by
  refine ⟨?_, ?_, ?_, ?_, ?_⟩ <;> cases st <;> cases frame <;> decide +kernel

/-- A waiting turn of each state, and a reply of each result that reads as valid in it. -/
theorem witness_ValidRepliesFollowTheirTables :
    (inTurn .waitingUpdate .update (.serving 1 true) (.ready [])).awaitsReply (someTurn .update (.ready []))
        { someEntry .waitingUpdate with turn := some .exchanging }
      ∧ (inTurn .waitingProbe .probe (.serving 1 true) (.ready [])).awaitsReply (someTurn .probe (.ready []))
        { someEntry .waitingProbe with turn := some .exchanging }
      ∧ (inTurn .waitingWithdraw .withdraw (.serving 1 true) (.ready [])).awaitsReply (someTurn .withdraw (.ready []))
        { someEntry .waitingWithdraw with turn := some .exchanging }
      ∧ ([someReply .staged 41#16 (some 42#16), someReply .staged 41#16 none, someReply .staged 42#16 none,
          someReply .shown 42#16 none, someReply .shown 43#16 none, someReply .rejected 50#16 none,
          someReply .withdrawn 41#16 none].all fun r =>
            readReply 0x1234#16 300117#24 (replyFrame 0x1234#16 300117#24 r) == some r) = true :=
  ⟨awaits _ _, awaits _ _, awaits _ _, by decide +kernel⟩
/-- A write-back that confirms, one that writes a delivery state, and one that writes none; a Q2 read with a primary of 0 and
of 1. -/
theorem witness_ValidRepliesFollowTheirTables_writeBack :
    (∀ wb ∈ [({ confirm := true, delivery := some .confirmed, after := .closes .confirmed } : WriteBack),
        { confirm := false, delivery := some .staged, after := .stays .heldStaged },
        { confirm := false, delivery := none, after := .stays .waitingProbe }],
      let e := { someEntry .waitingProbe with turn := some (.writingBack wb) }
      (withEntries running [e]).entry 5 = some e ∧ (withEntries running [e]).oneEntryEach = true)
      ∧ (let price := fun ws : List Word => min 9999999 ((ws.getD 8 0#32).extractLsb' 0 24).toNat
        price (List.replicate 16 0#32) = 0 ∧ price ((List.replicate 16 0#32).set 8 1#32) ≠ 0)
      ∧ 0 ∈ [0, 1, 2, 3] ∧ 0 ∉ [2] ∧ (inTurn .waitingUpdate .update (.serving 1 true) (.ready [])).oneEntryEach = true := by
  decide +kernel

theorem witness_SilenceCountsAnAttempt :
    (inTurn .waitingProbe .probe (.serving 1 true) (.ready [])).awaitsReply (someTurn .probe (.ready []))
        { someEntry .waitingProbe with turn := some .exchanging }
      ∧ readReply 0x1234#16 300117#24 [] = none
      ∧ (2 : Nat) + 1 = (inTurn .waitingProbe .probe (.serving 1 true) (.ready [])).attemptLimit :=
  ⟨awaits _ _, by decide +kernel, by decide +kernel⟩

/-- 07, "A Slot on a Crowded Channel": STAGED 42 to the UPDATE of turn 1. -/
theorem test_reply_received :
    (after (exec (.replyReceived (replyFrame 0x1234#16 300117#24 (someReply .staged 41#16 (some 42#16))))
        (inTurn .waitingUpdate .update (.serving 1 true) (.ready [])))).map
      (fun t => t.roster.entries.map (·.turn))
      = some [some (.writingBack { confirm := false, delivery := some .staged, after := .stays .waitingProbe })] := by
  decide +kernel
theorem test_reply_window_close :
    (after (exec .replyWindowClose (inTurn .waitingProbe .probe (.serving 1 true) (.ready [])))).map
      (fun t => (t.roster.entries.map (·.attempts), t.cache.airRequests.map (·.op))) = some ([1], [.countMiss]) := by
  decide +kernel
theorem test_reply_window_open :
    (after (exec .replyWindowOpen (inTurn .waitingProbe .probe (.serving 1 false) (.ready [])))).map (·.air.stage)
      = some (.serving 1 true) := by decide +kernel

/-- The published check value of this cyclic check for the nine digits 1 to 9. -/
theorem test_check_remainder :
    checkRemainder [0x31#8, 0x32#8, 0x33#8, 0x34#8, 0x35#8, 0x36#8, 0x37#8, 0x38#8, 0x39#8] = 0x89F6#16 := by decide +kernel
theorem test_frame_check : frameCheck [0x31#8, 0x32#8, 0x33#8, 0x34#8, 0x35#8, 0x36#8, 0x37#8, 0x38#8, 0x39#8] = 0x6F91#16 := by
  decide +kernel

/-! ## Witnesses: the air cycle -/

/-- At the end of slot 63, with a renewal (CLOSED) and without (OPEN on one day). -/
theorem witness_CycleStartTakesNumberAndTime :
    let s := { running with time := { running.time with position := .slot 63, periodOver := true } }
    let u := { s with time := { s.time with liveRush := .openDay 3, cycleRush := .openDay 3 } }
    s.host.runState = .running ∧ s.host.active ≠ some .halt ∧ s.time.position = .slot 63 ∧ s.time.periodOver = true
      ∧ s.time.liveRush = .closed ∧ ¬ (u.time.liveRush = .closed ∨ u.time.cycleRush ≠ u.time.liveRush)
      ∧ ({ s with host := { s.host with active := some .halt } } : State).host.active = some .halt
      ∧ s.air.radio = .active ∧ faulted.air.radio = .fault ∧ faulted.air.restartMark = true
      ∧ (someEntry .heldStaged).activation.toNat ≤ s.time.storeTime.toNat ∧ s.time.storeTime.toNat < (1000001#32).toNat := by
  decide +kernel
theorem test_cycle_start : (after (exec .cycleStart faulted)).map (fun t => (t.air.radio, t.air.stage, t.time.position))
    = some (.active, .beaconSense 0, .beacon) := by decide +kernel
theorem witness_BeaconSensesSendOrSkip :
    ∀ n ∈ [0, 1, 2], ({ running.air with stage := .beaconSense n } : AirLink).stage = .beaconSense n
      ∧ running.air.radio = .active := by decide +kernel
theorem test_beacon_sense :
    (after (exec (.beaconSense false) { running with air := { running.air with stage := .beaconSense 1 } })).map
      (fun t => (t.air.onAir.map List.length, t.air.stage)) = some (some 13, .idle) := by decide +kernel
theorem witness_SlotStartTakesTheFirstSix :
    let s := { running with time := { running.time with position := .beacon } }
    let u := { running with time := { running.time with position := .slot 62, periodOver := true } }
    s.host.active ≠ some .halt ∧ s.air.radio = .active ∧ s.time.position = .beacon ∧ (0 : Fin 64).val = 0
      ∧ ({ s with host := { s.host with active := some .halt } } : State).host.active = some .halt
      ∧ u.time.position = .slot 62 ∧ u.time.periodOver = true ∧ (63 : Fin 64).val = (62 : Fin 64).val + 1 := by
  decide +kernel
/-- Index 5 lies in slot 40, which starts after slot 39. -/
theorem test_slot_start :
    (after (exec .slotStart (withEntries
        { running with time := { running.time with position := .slot 39, periodOver := true } }
        [someEntry .waitingUpdate]))).map
      (fun t => (t.air.turns.map (·.index), t.air.stage, t.cache.airRequests.map (·.op)))
      = some ([5], .slotSense 0, [.read [0, 2]]) := by decide +kernel
/-- Slot 40, where index 5 lies, with nothing to take, with an entry to take, and with one that holds deferred actions. -/
theorem witness_SlotsInFaultReturnTheirEntries :
    ∀ es ∈ [[], [someEntry .waitingUpdate], [{ someEntry .waitingUpdate with deferCancel := true, deferExpiry := true }]],
      let s := withEntries { faulted with time := { faulted.time with position := .slot 39, periodOver := true } } es
      s.host.active ≠ some .halt ∧ s.air.radio = .fault ∧ s.oneEntryEach = true ∧ s.time.position = .slot 39
        ∧ s.time.periodOver = true ∧ (40 : Fin 64).val = (39 : Fin 64).val + 1
        ∧ (∀ e ∈ s.roster.entries, e.turn ≠ some .exchanging)
        ∧ ((s.roster.inListOrder 40).filter fun e => e.mayTakeTurn s.time.cycleNumber).take 6 = es := by decide +kernel
/-- A turn that can be sent, one whose read has not come, and deferred actions. -/
theorem witness_SlotSensesCallOrLose :
    let s := inTurn .waitingProbe .probe (.slotSense 2) (.ready [])
    let d := withEntries s [{ someEntry .waitingProbe with turn := some .exchanging, deferCancel := true, deferExpiry := true }]
    let u := inTurn .waitingUpdate .update (.slotSense 0) .awaited
    s.air.stage = .slotSense 2 ∧ s.time.position = .slot 40 ∧ s.time.periodOver = false ∧ s.air.radio = .active
      ∧ s.oneEntryEach = true ∧ d.oneEntryEach = true ∧ s.air.turns.map (·.content) = [.ready []]
      ∧ u.air.stage = .slotSense 0 ∧ u.air.turns.map (·.content) = [.awaited] := by decide +kernel
theorem test_slot_sense :
    (after (exec (.slotSense false) (inTurn .waitingProbe .probe (.slotSense 2) (.ready [])))).map
      (fun t => (t.air.stage, t.air.onAir.map (·.drop 2 |>.take 8)))
      = some (.serving 0 false, some [2#8, 40#8, 1#8, 0x55#8, 0x94#8, 0x04#8, 1#8, 4#8]) := by decide +kernel
theorem witness_TurnsSendTheirFrames :
    let s := inTurn .waitingUpdate .update (.serving 0 false) (.ready [1#8])
    let u := inTurn .waitingUpdate .update (.serving 1 false) (.ready [1#8])
    s.air.turn 1 = some (someTurn .update (.ready [1#8])) ∧ (1#3).toNat = (someTurn .update (.ready [1#8])).number
      ∧ s.air.stage = .serving 0 false ∧ 0 < (someTurn .update (.ready [1#8])).number
      ∧ (someTurn .update (.ready [1#8])).content = .ready [1#8] ∧ u.air.stage = .serving 1 false
      ∧ (someTurn .update (.ready [1#8])).reported = false := by decide +kernel
/-- 10, the UPDATE content of a DIGIT label that shows 16.99, with a unit price of 22.65 per kilogram. -/
theorem test_update_content :
    let s := inTurn .waitingUpdate .update (.slotSense 0) .awaited
    let ws := (List.replicate 16 0#32).set 1 0x00020000#32 |>.set 8 1699#32 |>.set 10 2265#32
    ((s.deliver ⟨5, .read [0, 2], .updateContent 1⟩ (.served ws [0, 2]) 0#24).air.turns.map (·.content))
      = [.ready [0#8, 0xFF#8, 0x1F#8, 0x96#8, 0x09#8, 0xFF#8, 0x2F#8, 0x62#8, 0x05#8, 2#8]] := by decide +kernel
theorem test_turn_start :
    (after (exec (.turnStart 1#3) (inTurn .waitingUpdate .update (.serving 0 false) (.ready [1#8])))).map
      (fun t => (t.air.stage, t.air.onAir.isSome, t.roster.entries.map (·.offered)))
      = some (.serving 1 false, true, [true]) := by decide +kernel
theorem test_frame_sent :
    (after (exec .frameSent { running with air := { running.air with onAir := some [1#8], keyedMs := 4 } })).map
      (fun t => (t.air.onAir, t.air.keyedMs)) = some (none, 0) := by decide +kernel
/-- With a walker that waits for the turn, under HALT, and with deferred actions. -/
theorem witness_SlotEndReturnsEntries :
    let s := { inTurn .waitingProbe .probe .idle .dropped with
      walk := some { Walk.start 0 (.short 0#16) with phase := .turnStall anApplication false } }
    let h := { s with host := { s.host with active := some .halt } }
    let d := withEntries s [{ someEntry .waitingProbe with turn := some .exchanging, deferCancel := true, deferExpiry := true }]
    s.time.position = .slot 40 ∧ s.time.periodOver = false ∧ s.oneEntryEach = true ∧ d.oneEntryEach = true
      ∧ s.host.active ≠ some .halt ∧ h.host.active = some .halt
      ∧ ((s.roster.inListOrder 40).filter fun e => e.turn == some .exchanging).map (·.index) = [5] := by decide +kernel
theorem test_slot_end :
    (after (exec .slotEnd (inTurn .waitingProbe .probe .idle .dropped))).map
      (fun t => (t.time.periodOver, t.roster.entries.map (·.turn))) = some (true, [none]) := by decide +kernel

/-! ## Witnesses: the Chain Walker -/

/-- A card at card number 512 with a next link, the first of the chain of a ticket walked from slot 0. -/
def atCardTo (next : Word) (k : Ticket) (w0 w8 w12 w16 : Word) (w : Walk) : State :=
  { withTicket running 0 k with
    ram := (ramOf [(16384, w0), (16388, next), (16392, w8), (16396, w12), (16400, w16), (16404, 0#32), (16408, 0#32),
      (16412, 0#32)])
    walk := some w }

/-- A card of `someTicket` that goes on at card 513. -/
def atCard (w0 w8 w12 w16 : Word) (w : Walk) : State := atCardTo 0x20001#32 (someTicket .walking) w0 w8 w12 w16 w


/-- The walk before that card, in decidable form. -/
abbrev Before (s : State) (w : Walk) (k : Ticket) (l : Link) : Prop :=
  (s.host.runState = .running ∧ s.host.active ≠ some .halt ∧ s.walk = some w ∧ w.phase = .ready
      ∧ s.ticket w.slot = some k ∧ w.slot < 32 ∧ k.tallies.length = 17
      ∧ s.boardBase % 4096 = 0 ∧ s.ram.wf = true)
    ∧ s.resolveLink k.chainBase l = .card 512 ∧ (w.next = .repeatCard ∨ (k.count 0).toNat < k.cardLimit)
    ∧ ∀ j < 8, s.ram.faulty (32 * 512 + 4 * j) = false

theorem before {s : State} {w : Walk} {k : Ticket} {l : Link} (h : Before s w k l) : s.BeforeCard w k l 512 :=
  before_card (walker_ready h.1) h.2

/-- A span over the body at card 512, at an index. -/
def spanAt (index : Nat) : SpanFrame :=
  { start := 0, remaining := 4, stride := 1, current := index, startDepartment := none, untilDepartment := false,
    body := .short 0#16, exit := none, depth := 0 }

/-- A walk before its first card; one inside a span, at a depth of one; one that is to read a span's body again. -/
def firstWalk : Walk := Walk.start 0 (.short 0#16)
def insideWalk (index depth : Nat) : Walk := { firstWalk with stack := [.short 2#16], span := some { spanAt index with depth := depth } }
def bodyWalk : Walk := { firstWalk with next := .repeatCard, body := true, span := some (spanAt 5) }
/-- One card for each clause, as its words at offsets 0, 8, 12 and 16: kinds 0 and 9; a SPAN of 4,097 records; a PRICE of 0;
mode SPAN with no span; index N and N less 1; a SPAN of 4,096 with stride 64; an INCLUDE, and one of an empty sub-chain; a
MARK; an END. -/
def cards : List (List Word) :=
  [[0#32, 0#32, 0#32, 0#32], [9#32, 0#32, 0#32, 0#32], [5#32, 0#32, 4097#32, 64#32], [0x00050001#32, 0#32, 0#32, 0#32],
    [0x101#32, 1#32, 0#32, 0#32], [0x08000001#32, 1#32, 0#32, 0#32], [0x07FF0001#32, 9999999#32, 0#32, 0#32],
    [5#32, 0#32, 4096#32, 64#32], [6#32, 0x20001#32, 0#32, 0#32], [6#32, 0#32, 0#32, 0#32], [7#32, 100#32, 0#32, 0#32],
    [8#32, 0#32, 0#32, 0#32]]

/-- A first walk before one of them. -/
def atOneOf (c : List Word) : State := atCard (c.getD 0 0#32) (c.getD 1 0#32) (c.getD 2 0#32) (c.getD 3 0#32) firstWalk

theorem witness_CardReadsActByKind :
    ∀ c ∈ cards, (atOneOf c).BeforeCard firstWalk (someTicket .walking) firstWalk.link 512
      ∧ firstWalk.next ≠ .nextIteration ∧ firstWalk.body = false ∧ firstWalk.span = none ∧ firstWalk.stack.length < 4
      ∧ linkOfWord 0x20001#32 ≠ .null := by
  have h : ∀ c ∈ cards, Before (atOneOf c) firstWalk (someTicket .walking) firstWalk.link := by decide +kernel
  exact fun c hc => ⟨before (h c hc), by decide +kernel⟩
/-- Which of those cards lie in the ranges of R65, and what the targets of the two INCLUDEs come to. -/
theorem witness_CardReadsActByKind_ranges :
    (∀ c ∈ (cards.take 4).drop 2, ¬ ((atOneOf c).readCard 512).inRange) ∧ (∀ c ∈ cards.drop 4, ((atOneOf c).readCard 512).inRange)
      ∧ running.resolveLink 16384 (linkOfWord 0x20001#32) = .card 513 ∧ linkOfWord 0#32 = .null
      ∧ (0x08000001#32 : Word).extractLsb' 16 14 = 2048#14 ∧ (0x07FF0001#32 : Word).extractLsb' 16 14 = 2047#14
      ∧ running.directorySize = 2048 := by
  refine ⟨?_, ?_, by decide +kernel⟩ <;> simp only [Card.inRange] <;> decide +kernel
/-- Inside a span: a SPAN card, mode SPAN at the last index and beyond it, an END that ends the iteration and one that pops. -/
theorem witness_CardReadsActByKind_inside :
    ∀ c ∈ [(5#32, 0#32, insideWalk 5 0), (0x101#32, 1#32, insideWalk 2047 0), (0x101#32, 1#32, insideWalk 2048 0),
        (8#32, 0#32, insideWalk 5 0), (8#32, 0#32, insideWalk 5 1)],
      (atCard c.1 c.2.1 1#32 1#32 c.2.2).BeforeCard c.2.2 (someTicket .walking) c.2.2.link 512
        ∧ c.2.2.next ≠ .nextIteration ∧ c.2.2.span.isSome = true := by
  have h : ∀ c ∈ [(5#32, 0#32, insideWalk 5 0), (0x101#32, 1#32, insideWalk 2047 0), (0x101#32, 1#32, insideWalk 2048 0),
        (8#32, 0#32, insideWalk 5 0), (8#32, 0#32, insideWalk 5 1)],
      Before (atCard c.1 c.2.1 1#32 1#32 c.2.2) c.2.2 (someTicket .walking) c.2.2.link ∧ c.2.2.next ≠ .nextIteration
        ∧ c.2.2.span.isSome = true := by decide +kernel
  exact fun c hc => ⟨before (h c hc).1, (h c hc).2⟩
/-- A NULL link, at the chain's top and over a stack of NULLs; and a card before which parking, and an end, are asked. -/
theorem witness_CardReadsActByKind_boundaries :
    (∀ w ∈ [{ firstWalk with link := .null }, { firstWalk with link := .null, stack := [.null, .short 1#16] }],
      (atCard 7#32 0#32 0#32 0#32 w).WalkerReady w (someTicket .walking) ∧ w.next ≠ .nextIteration ∧ w.link = .null)
    ∧ ∀ w ∈ [{ firstWalk with parkRequest := true }, { firstWalk with endRequest := some .cancelled }],
      (atCard 7#32 100#32 0#32 0#32 w).BeforeCard w (someTicket .walking) w.link 512 ∧ w.next ≠ .nextIteration
        ∧ (atCard 7#32 100#32 0#32 0#32 w).WalkMayEnd w.slot (someTicket .walking)
        ∧ rising (atCard 7#32 100#32 0#32 0#32 w).unit.tickets = true := by
  refine ⟨fun w hw => ⟨walker_ready ?_, ?_⟩, fun w hw => ⟨before ?_, ?_, may_end ?_, ?_⟩⟩ <;> (revert w; decide +kernel)
/-- The opening question: no entry, one that is free, and one that is IN_TURN; and a body that is read again. -/
theorem witness_CardReadsActByKind_opens :
    (atCard 0x101#32 1#32 0#32 0#32 bodyWalk).BeforeCard bodyWalk (someTicket .walking) bodyWalk.link 512
      ∧ bodyWalk.next = .repeatCard ∧ bodyWalk.body = true ∧ bodyWalk.span = some (spanAt 5)
      ∧ (atCard 0x101#32 1#32 0#32 0#32 bodyWalk).entry 5 = none
      ∧ (let s := withEntries (atCard 0x00050001#32 1#32 0#32 0#32 firstWalk) [someEntry .waitingUpdate]
        s.entry 5 = some (someEntry .waitingUpdate) ∧ (someEntry .waitingUpdate).turn = none
          ∧ (someEntry .waitingUpdate).removing = none ∧ (someEntry .waitingUpdate).decision = none)
      ∧ (let e := { someEntry .waitingUpdate with turn := some .exchanging };
        (withEntries (atCard 0x00050001#32 1#32 0#32 0#32 firstWalk) [e]).entry 5 = some e ∧ e.turn.isSome = true) :=
  ⟨before (by decide +kernel), by decide +kernel⟩
/-- A PRICE card before which an end is asked. -/
theorem witness_CardReadsActByKind_ending :
    let w := { firstWalk with endRequest := some .cancelled }
    (atCard 0x00050001#32 1#32 0#32 0#32 w).BeforeCard w (someTicket .walking) w.link 512
      ∧ (atCard 0x00050001#32 1#32 0#32 0#32 w).WalkMayEnd 0 (someTicket .walking) :=
  ⟨before (by decide +kernel), may_end (by decide +kernel)⟩
theorem test_mark_card :
    (after (exec .cardRead (atCard 7#32 100#32 0#32 0#32 (Walk.start 0 (.short 0#16))))).map
      (fun t => (t.ticketWord 0 16, t.ticketWord 0 24, t.walk.map (·.link))) = some (100#32, 1#32, some (.short 1#16)) := by
  decide +kernel
/-- A card of kind 9 is refused BAD_KIND and written to the exception list (R48, R64). -/
theorem test_bad_kind :
    (after (exec .cardRead (atCard 9#32 0#32 0#32 0#32 (Walk.start 0 (.short 0#16))))).map
      (fun t => (t.ram.word 24576, t.ram.word 24584)) = some (0x00010000#32, 512#32) := by decide +kernel


def spanWalk (index : Nat) : Walk :=
  { Walk.start 0 (.short 0#16) with next := .nextIteration, span := some (spanAt index), fresh := false }

/-- The last index of the directory, and the first beyond it, with an exit link and with a NULL one over a stack; and a body
link that is NULL. -/
theorem witness_SpanIterationsTestTheIndex :
    (atCard 7#32 0#32 0#32 0#32 (spanWalk 2047)).BeforeCard (spanWalk 2047) (someTicket .walking) (spanAt 2047).body 512
      ∧ (atCard 7#32 0#32 0#32 0#32 (spanWalk 2048)).BeforeCard (spanWalk 2048) (someTicket .walking) (spanAt 2048).body 512
      ∧ (let w := { spanWalk 2048 with stack := [.null, .short 1#16] }
        (atCardTo 0#32 (someTicket .walking) 7#32 0#32 0#32 0#32 w).BeforeCard w (someTicket .walking) (spanAt 2048).body 512)
      ∧ (let w := { spanWalk 5 with span := some { spanAt 5 with body := .null } }
        (atCard 7#32 0#32 0#32 0#32 w).WalkerReady w (someTicket .walking) ∧ w.next = .nextIteration)
      ∧ (spanWalk 2047).next = .nextIteration ∧ (spanWalk 2047).span = some (spanAt 2047)
      ∧ (spanWalk 2047).link = .short 0#16 ∧ (spanWalk 2048).span = some (spanAt 2048) ∧ (spanAt 2047).current < settings.directorySize
      ∧ settings.directorySize ≤ (spanAt 2048).current ∧ linkOfWord 0x20001#32 ≠ .null ∧ linkOfWord 0#32 = .null :=
  ⟨before (by decide +kernel), before (by decide +kernel), before (by decide +kernel), ⟨walker_ready (by decide +kernel), rfl⟩,
    by decide +kernel⟩
/-- A span resumed with a current link of form code 3. -/
def badSpanWalk : Walk := { spanWalk 5 with link := .undefinedForm 512#17 }

theorem witness_SpanIterationsTestTheIndex_badLink :
    (atCard 7#32 0#32 0#32 0#32 badSpanWalk).WalkerReady badSpanWalk (someTicket .walking)
      ∧ (atCard 7#32 0#32 0#32 0#32 badSpanWalk).WalkMayEnd 0 (someTicket .walking)
      ∧ badSpanWalk.next = .nextIteration ∧ badSpanWalk.span = some (spanAt 5) :=
  ⟨walker_ready (by decide +kernel), may_end (by decide +kernel), rfl, rfl⟩
/-- The walk ends ABRIDGED with reason BAD_LINK, and no card is counted (R187). -/
theorem test_form_three_ends_iteration :
    (after (exec .spanIteration (atCard 7#32 0#32 0#32 0#32 badSpanWalk))).map
      (fun t => (t.walk.isNone, t.ticketWord 0 12, t.ticketWord 0 24)) = some (true, 0x202#32, 0#32) := by decide +kernel
/-- A span's body at index 5 that waits for Q0. -/
def iterating (start : Option Byte) (untilDepartment : Bool) : Walk :=
  { spanWalk 5 with
    span := some { spanAt 5 with startDepartment := start, untilDepartment := untilDepartment, exit := some (.short 2#16) }
    body := true
    phase := .iterating anApplication.card 512 }

/-- Q0 of an index in department 3, answered for a span with no start department, with the same and with another; of a vacant
and of a damaged record. -/
theorem witness_SpanIterationsTestTheIndex_answers :
    (∀ w ∈ [iterating none true, iterating none false, iterating (some 3#8) true, iterating (some 4#8) true,
        iterating (some 4#8) false],
      let s := atCard 7#32 0#32 0#32 0#32 w
      s.walk = some w ∧ w.phase = .iterating anApplication.card 512 ∧ w.span.isSome = true
        ∧ s.ticket w.slot = some (someTicket .walking) ∧ (someTicket .walking).tallies.length = 17)
      ∧ ([0x01000123#32, 0x0300#32].getD 1 0#32).extractLsb' 8 8 = 3#8
      ∧ ([0#32, 0x0300#32].getD 0 0#32).extractLsb' 0 24 = 0#24
      ∧ ([0xFFFFFF#32, 0x0300#32].getD 0 0#32).extractLsb' 0 24 = 0xFFFFFF#24
      ∧ ([0x01000123#32, 0x0300#32].getD 0 0#32).extractLsb' 0 24 = 0x123#24 := by decide +kernel
/-- A record of department 4 ends the span of a start in department 3, and the walk goes on at the exit link (R78, R79). -/
theorem test_department_ends_span :
    ((atCard 7#32 0#32 0#32 0#32 (iterating (some 3#8) true)).deliver ⟨5, .read [0], .spanTest⟩ (.served [0x123#32, 0x400#32] [0]) 0#24).walk.map
      (fun w => (w.link, w.span.isSome)) = some (.short 2#16, false) := by decide +kernel
theorem test_span_iteration :
    (after (exec .spanIteration (atCard 7#32 0#32 0#32 0#32 (spanWalk 5)))).map
      (fun t => (t.ticketWord 0 24, t.cache.walkerRequest.map (·.index))) = some (1#32, some 5) := by decide +kernel

def someApplication : Application := { card := ⟨1#32, 0#32, 5#32, 0#32, 0#32⟩, cardNumber := 512, index := 5, fromEntry := true }

/-- A walk of slot 0 in progress. -/
def someWalk : Walk := { Walk.start 0 (.short 0#16) with fresh := false }

def stalled (phase : WalkPhase) : State := { running with walk := some { someWalk with phase := phase } }

theorem witness_StallRetriesAskAgain :
    (stalled (.roomStall someApplication true)).walk = some { someWalk with phase := .roomStall someApplication true }
      ∧ (stalled (.turnStall someApplication true)).walk = some { someWalk with phase := .turnStall someApplication true }
      ∧ (stalled (.turnStall someApplication true)).entry 5 = none ∧ someWalk.endRequest = none
      ∧ (let s := withEntries (stalled (.turnStall someApplication true)) [someEntry .heldStaged]
        s.entry 5 = some (someEntry .heldStaged) ∧ (someEntry .heldStaged).turn = none
          ∧ (someEntry .heldStaged).removing = none ∧ (someEntry .heldStaged).decision = none)
      ∧ (let e := { someEntry .waitingProbe with turn := some .exchanging };
        (withEntries (stalled (.turnStall someApplication true)) [e]).entry 5 = some e ∧ e.turn.isSome = true) := by
  decide +kernel
theorem test_room_stall_retry :
    (after (exec .roomStallRetry (stalled (.roomStall someApplication true)))).map (·.cache.walkerRequest)
      = some (some ⟨5, .read [0, 2], .recordRead⟩) := by decide +kernel
theorem test_turn_stall_retry :
    (after (exec .turnStallRetry (stalled (.turnStall someApplication true)))).map (·.cache.walkerRequest)
      = some (some ⟨5, .read [0, 1, 3], .recordRead⟩) := by decide +kernel

/-! ## Witnesses: the Directory Cache -/

def airRead : Request := { index := 600, op := .read [0, 2], purpose := .updateContent 1 }
def stagedWrite : Request := { index := 600, op := .update (deliveryUpdate .staged), purpose := .deliveryState }
def walkerWrite : Request := { index := 600, op := .write [(8, 1#32)], purpose := .stageImage }

/-- Index 600 falls in set 9: the set empty, and the set full of other records with the counter at 3. -/
theorem witness_PortGrantsStartFills :
    let s := { running with cache := { Cache.reset with airRequests := [airRead] } }
    let full := withLines { running with cache := { Cache.reset with replacement := 3#2 } }
      [(36, someLine 576 0#4), (37, someLine 601 12#4), (38, someLine 610 0#4), (39, someLine 630 0#4)]
    s.host.active ≠ some .dropAll ∧ s.cache.fill = none ∧ s.cache.pushBuffer = none
      ∧ (∀ way < 4, assocFind (4 * (600 / 64 % 64) + way) s.cache.lines = none)
      ∧ 36 = 4 * (600 / 64 % 64) + 0 ∧ s.cache.airRequests.head? = some airRead ∧ s.cache.airAside = false
      ∧ (∀ way < 4, ((assocFind (4 * (600 / 64 % 64) + way) full.cache.lines).any fun l => l.index != 600) = true)
      ∧ 39 = 4 * (600 / 64 % 64) + full.cache.replacement.toNat ∧ s.isBack 600 = true
      ∧ (let d := { running with cache := { Cache.reset with deliveryRequests := [stagedWrite] } }
        d.cache.airRequests = [] ∧ d.cache.deliveryRequests.head? = some stagedWrite ∧ d.cache.deliveryAside = false)
      ∧ (let w := { running with cache := { Cache.reset with walkerRequest := some walkerWrite } }
        w.cache.airRequests = [] ∧ w.cache.deliveryRequests = [] ∧ w.cache.walkerRequest = some walkerWrite
          ∧ w.cache.walkerAside = false ∧ walkerWrite.op.isWrite = true) := by decide +kernel
/-- The lowest quarter of a read, of a write, of an update and of a miss's count. -/
theorem witness_PortGrantsStartFills_quarters :
    (airRead.op.needs 0 ∧ ∀ p, airRead.op.needs p → 0 ≤ p) ∧ (walkerWrite.op.needs 2 ∧ ∀ p, walkerWrite.op.needs p → 2 ≤ p)
      ∧ (stagedWrite.op.needs 2 ∧ ∀ p, stagedWrite.op.needs p → 2 ≤ p)
      ∧ CacheOp.countMiss.needs 3 ∧ ∀ p, CacheOp.countMiss.needs p → 3 ≤ p := by
  simp [CacheOp.needs, airRead, walkerWrite, stagedWrite, deliveryUpdate]
theorem test_port_grant :
    (after (exec .portGrant { running with cache := { Cache.reset with walkerRequest := some walkerWrite } })).map
      (fun t => (t.cache.fill.map fun f => (f.key, f.first), t.cache.replacement)) = some (some (36, 2), 1#2) := by
  decide +kernel
/-- Index 600 in a BACK region, index 1,030 in a THROUGH one; a request of each kind, and one that lists nothing. -/
theorem witness_HitsFollowTheWritePolicy :
    running.isBack 600 = true ∧ running.isBack 1030 = false ∧ running.directoryBase % 4 = 0 ∧ running.ram.wf = true
      ∧ (someLine 600 0#4).words.length = 16 ∧ (CacheOp.read [0, 2]).listed = []
      ∧ ∀ op ∈ [CacheOp.read [0, 2], .write [(0, 1#32), (15, 2#32)], .update (deliveryUpdate .staged), .countMiss],
        (∀ j ∈ op.listed, j < 16) ∧ op.listed.Nodup := by decide +kernel
/-- A delivery-state write keeps the unit price and remainder beside the state, in the line and in RAM (R9, R188). -/
theorem test_update_keeps_other_bits :
    let l := { someLine 1030 0#4 with words := (List.replicate 16 0#32).set 10 0xA1FFFFFF#32 }
    let t := running.serveOnLine 24 l (.update (deliveryUpdate .staged))
    t.ram.word (running.recordOffset 1030 10) = 0xA2FFFFFF#32 ∧ t.ram.faulty (running.recordOffset 1030 10) = false := by
  decide +kernel

def asking (r : Request) (lines : List (Nat × Line)) : State :=
  withLines { running with cache := { Cache.reset with walkerRequest := some r } } lines

/-- The Walker's request when no other requester presents one. -/
theorem walker_next {s : State} {r : Request} (h : s.cache.airRequests = [] ∧ s.cache.deliveryRequests = []
    ∧ s.cache.walkerRequest = some r ∧ s.cache.walkerAside = false ∧ s.cache.fill.all (fun f => f.requester != .walker) = true) :
    s.cache.nextGrant .walker r := by
  obtain ⟨h1, h2, h3, h4, h5⟩ := h
  refine ⟨⟨fun f hf hw => ?_, h4, h3⟩, fun _ x hx => ?_, fun _ x hx => ?_⟩
  · rw [hf] at h5
    simp [hw] at h5
  · obtain ⟨-, -, hx⟩ := hx
    simp [h1] at hx
  · obtain ⟨-, -, hx⟩ := hx
    simp [h2] at hx

/-- A hit in way 3 of set 9; a miss under THROUGH; the record in the push buffer; a miss while the fill of another requester
runs. -/
theorem witness_HitsFollowTheWritePolicy_grants :
    (asking walkerWrite [(39, someLine 600 0#4)]).cache.nextGrant .walker walkerWrite
      ∧ assocFind (4 * (600 / 64 % 64) + 3) (asking walkerWrite [(39, someLine 600 0#4)]).cache.lines = some (someLine 600 0#4)
      ∧ (asking { walkerWrite with index := 1030 } []).cache.nextGrant .walker { walkerWrite with index := 1030 }
      ∧ running.isBack 1030 = false ∧ (asking walkerWrite []).cache.fill = none ∧ (asking walkerWrite []).cache.pushBuffer = none
      ∧ (let s := asking walkerWrite []
        let b := { s with cache := { s.cache with pushBuffer := some (someLine 600 1#4) } }
        let f := { s with cache := { s.cache with fill := some { someFill 64 with requester := .delivery } } }
        b.cache.nextGrant .walker walkerWrite ∧ f.cache.nextGrant .walker walkerWrite ∧ f.cache.fill.isSome = true
          ∧ f.isBack 600 = true ∧ f.host.active ≠ some .dropAll) := by
  refine ⟨walker_next ?_, ?_, walker_next ?_, ?_, ?_, ?_, ⟨walker_next ?_, walker_next ?_, ?_⟩⟩ <;> decide +kernel
/-- PUSH_ALL, and the push of a RELOAD, with its place beyond the first pending line, before the second, and with one pending
line left; and that push beside a fill. -/
theorem witness_HitsFollowTheWritePolicy_sweeper :
    let l := { someLine 64 5#4 with pushPending := true }
    let m := { someLine 600 1#4 with pushPending := true }
    ∀ lines ∈ [[(4, l), (36, m)], [(36, m)]], ∀ c ∈ [(ActiveCommand.pushAll, LoaderPhase.idle), (.reload, .pushing)],
      ∀ fill ∈ [none, some (someFill 300)],
      let s := { withLines running lines with host := { running.host with active := some c.1 }, loader := c.2 }
      let t := { s with cache := { s.cache with sweeper := some 5, fill := fill } }
      t.host.active = some c.1 ∧ t.loader = c.2 ∧ (∀ who r, ¬ t.cache.presents who r) ∧ t.cache.sweeper = some 5
        ∧ rising t.cache.lines = true ∧ assocFind 36 t.cache.lines = some m ∧ m.pushPending = true ∧ t.ram.wf = true
        ∧ t.directoryBase % 4 = 0
        ∧ ∀ p ∈ t.cache.lines, p.2.pushPending = true → 5 ≤ 36 ∧ (5 ≤ p.1 → 36 ≤ p.1) ∨ p.1 < 5 ∧ 36 ≤ p.1 := by
  intro l m lines hl c hc fill hf
  refine ⟨rfl, rfl, fun who r h => ?_, rfl, ?_⟩
  · cases who <;> exact absurd h.2.2 (by simp [withLines, running, halted, State.reset, Cache.reset])
  · revert fill
    revert c
    revert lines
    decide +kernel
/-- Record 600 readable, with nothing, and with one or three dirty quarters, in the push buffer. -/
def fillReady (buffer : Option Line) : State :=
  { filling (withRam running ((List.range 16).map fun j => (65536 + 64 * 600 + 4 * j, BitVec.ofNat 32 j))) 600 with
    cache := { (filling running 600).cache with pushBuffer := buffer } }

theorem witness_FillsInstallAndPush :
    (fillReady none).cache.fill = some (someFill 600) ∧ (someFill 600).request = none ∧ (someFill 600).arrived = []
      ∧ (someFill 600).first < 4 ∧ (∀ j < 16, (fillReady none).ram.faulty ((fillReady none).recordOffset 600 j) = false)
      ∧ (fillReady none).host.active = none ∧ (fillReady none).loader = .idle
      ∧ (fillReady none).ram.wf = true ∧ (fillReady none).directoryBase % 4 = 0
      ∧ (fillReady (some (someLine 601 4#4))).cache.pushBuffer = some (someLine 601 4#4)
      ∧ (fillReady (some (someLine 601 13#4))).cache.pushBuffer = some (someLine 601 13#4) := by decide +kernel

/-- A fill that a request started, with two accesses of its record held; their answers come in order. -/
def fillAsked (r : Request) : State :=
  let s := fillReady none
  { s with
    host := { s.host with held := [.write 0x019600#24 7#32, .read 0x019600#24] }
    cache := { s.cache with fill := some { someFill 600 with request := some r, first := 2 } } }

theorem witness_FillsInstallAndPush_asked :
    (fillAsked walkerWrite).cache.fill.map (fun f => (f.request, f.arrived)) = some (some walkerWrite, [])
      ∧ (∀ j < 16, (fillAsked walkerWrite).ram.faulty ((fillAsked walkerWrite).recordOffset 600 j) = false)
      ∧ (fillAsked walkerWrite).host.held.length = 2 ∧ (fillAsked walkerWrite).ram.wf = true := by decide +kernel
/-- The same fill with Q2 and Q3 in the line read buffer, and a fault in a word of Q2 that was read in time, under each command
that a fill's end may let go on. -/
theorem witness_FillsInstallAndPush_partlyRead :
    ∀ a ∈ [none, some ActiveCommand.halt, some .pushAll, some .dropAll, some .reload, some (.cancel 3)],
      let f := { someFill 600 with request := some airRead, first := 2, arrived := [[1#32, 2#32, 3#32, 4#32], [5#32, 6#32, 7#32, 8#32]] }
      let s := spoiled { fillAsked airRead with
        host := { (fillAsked airRead).host with active := a }
        loader := if a = some .reload then .pushing else .idle
        cache := { (fillAsked airRead).cache with fill := some f } } (65536 + 64 * 600 + 32)
      s.cache.fill = some f ∧ f.first < 4
        ∧ (∀ j, j < 16 → ¬ (f.arrived.length ≤ (j / 4 + 4 - f.first) % 4 ∧ s.ram.faulty (s.recordOffset f.index j) = true))
        ∧ (s.loader = .pushing → s.host.active = some .reload) ∧ s.ram.wf = true ∧ s.directoryBase % 4 = 0
        ∧ s.fillWord f 8 = 1#32 ∧ s.fillWord f 15 = 8#32 ∧ s.fillWord f 1 = 1#32
        ∧ (let b := spoiled s (65536 + 64 * 600 + 28)
          b.cache.fill = some f ∧ f.arrived.length ≤ (7 / 4 + 4 - f.first) % 4
            ∧ b.ram.faulty (b.recordOffset f.index 7) = true) := by decide +kernel
/-- DROP_ALL that waited for a fill makes every way INVALID at the fill's end, and RELOAD goes on to its checks (R167, R169). -/
theorem test_fill_end_drops :
    ((after (exec .fillInstall { fillReady none with host := { running.host with active := some .dropAll } })).map
        (fun t => (t.cache.lines, t.host.active, t.host.lastResult)) = some ([], none, .done))
      ∧ (after (exec .fillInstall { fillReady none with
          host := { running.host with active := some .reload }, loader := .pushing })).map
        (fun t => (t.cache.lines, t.loader)) = some ([], .checking) := by decide +kernel
theorem test_fill_answers_held :
    (after (exec .fillInstall (fillAsked airRead))).map (fun t => (t.host.held, t.host.readData)) = some ([], some 7#32) := by
  decide +kernel
theorem test_fill_install :
    (after (exec .fillInstall (fillReady (some (someLine 601 4#4))))).map
      (fun t => (t.cache.fill, t.cache.pushBuffer, t.ram.word (65536 + 64 * 601 + 32), t.ram.word (65536 + 64 * 601)))
      = some (none, none, 0x11#32, 0#32) := by decide +kernel
/-- 11, "A Fill Fault on a Dirty Victim": a fault in the second word of Q0. -/
theorem witness_AbandonedFillsRestoreTheVictim :
    let s := spoiled (fillReady (some (someLine 601 12#4))) (65536 + 64 * 600 + 4)
    s.cache.fill = some (someFill 600) ∧ (someFill 600).request = none ∧ (someFill 600).arrived = []
      ∧ (someFill 600).first < 4 ∧ s.ram.faulty (s.recordOffset 600 1) = true ∧ s.host.active = none ∧ s.loader = .idle := by
  decide +kernel
/-- Read from Q2 on, with a fault in the last word of Q1: Q2, Q3 and Q0 have arrived. A read of Q0 and Q2 is answered, and one
of Q1 and a write are not. -/
theorem witness_AbandonedFillsRestoreTheVictim_asked :
    let s := spoiled (fillAsked airRead) (65536 + 64 * 600 + 28)
    s.cache.fill.map (fun f => (f.request, f.first, f.arrived)) = some (some airRead, 2, [])
      ∧ airRead.op = .read [0, 2] ∧ s.ram.faulty (s.recordOffset 600 7) = true
      ∧ (∀ q ∈ [0, 2, 3], ∀ m < 4, s.ram.faulty (s.recordOffset 600 (4 * q + m)) = false)
      ∧ walkerWrite.op = .write [(8, 1#32)] := by decide +kernel
theorem test_fill_abandon :
    (after (exec .fillAbandon (spoiled (fillReady (some (someLine 601 12#4))) (65536 + 64 * 600 + 4)))).map
      (fun t => (t.cache.lines.map (fun p => (p.1, p.2.dirty)), t.cache.pushBuffer, t.host.attention))
      = some ([(36, 12#4)], none, 0x010#9) := by decide +kernel

/-! ## Witnesses: the Loader -/

/-- A part at the header check, with a header, a settings block and a board of FREE words. -/
def loadingWith (signature layout board directory size settings : Word) : State :=
  { withRam State.reset
      ([(0, signature), (4, layout), (8, board), (12, directory), (16, size), (20, settings)]
        ++ ((List.range 10).map fun j => (24 + 4 * j, 0#32)) ++ ((List.range 16).map fun j => (8192 + 4 * j, 0#32))
        ++ (List.range 32).map fun j => (4096 + 128 * j, 0#32)) with
    host := { HostLink.reset with runState := .loading, active := some .reload }
    loader := .checking }

/-- One header for each of checks 2 to 5 of R181, each failing it at a boundary; then the settings block. -/
theorem witness_HeaderFaultsEndTheLoad :
    let s := loadingWith 0x41805A5A#32 1#32 4096#32 65536#32 64#32 8192#32
    s.host.runState = .loading ∧ s.loader = .checking ∧ (∀ j < 16, s.ram.faulty (4 * j) = false)
      ∧ (spoiled s 60).ram.faulty (4 * 15) = true
      ∧ (loadingWith 0x41805A5B#32 1#32 4096#32 65536#32 64#32 8192#32).ram.word 0 ≠ 0x41805A5A#32
      ∧ (loadingWith 0x41805A5A#32 2#32 4096#32 65536#32 64#32 8192#32).ram.word 4 ≠ 1#32
      ∧ ¬ ((loadingWith 0x41805A5A#32 1#32 4096#32 65536#32 0#32 8192#32).ram.word 16).toNat ≥ 64
      ∧ ¬ ((loadingWith 0x41805A5A#32 1#32 4096#32 65536#32 64#32 4096#32).ram.word 20).toNat + 64 ≤ 4096
      ∧ ¬ 4096 + 4096 ≤ ((loadingWith 0x41805A5A#32 1#32 4096#32 65536#32 64#32 4096#32).ram.word 20).toNat
      ∧ s.readHeader.faultCode = .none ∧ (∀ j < 16, s.ram.faulty (8192 + 4 * j) = false)
      ∧ (spoiled s 8252).ram.faulty (8192 + 4 * 15) = true
      ∧ (({ s with ram := s.ram.setWord 8192 0x00100000#32 } : State).ram.word 8192).extractLsb' 16 8 = 16#8 := by
  decide +kernel
/-- An invalid window, one within a day and one over midnight. -/
theorem witness_LoadsPutSettingsInEffect :
    let s := loadingWith 0x41805A5A#32 1#32 4096#32 65536#32 64#32 8192#32
    s.readHeader.faultCode = .none ∧ (∀ j < 16, s.ram.faulty (8192 + 4 * j) = false)
      ∧ ((s.ram.word 8192).extractLsb' 16 8).toNat ≤ 15
      ∧ (∀ j < 32, s.ram.faulty (4096 + 128 * j) = false ∧ s.ram.word (4096 + 128 * j) = 0#32)
      ∧ (∀ p ∈ [[0#32, 86399#32], [86399#32, 0#32]],
        let u := { s with
          ram := (s.ram.setWord 8200 (p.getD 0 0#32)).setWord 8204 (p.getD 1 0#32)
          time := { s.time with timeSet := true } }
        u.time.timeSet = true ∧ u.ram.word 8200 = p.getD 0 0#32 ∧ u.ram.word 8204 = p.getD 1 0#32
          ∧ (∀ j < 16, u.ram.faulty (8192 + 4 * j) = false)) := by decide +kernel
/-- The same part at its header check meets the hypotheses of the load's sweep, which starts at the base its header names. -/
theorem witness_InterruptedTicketsBalance_load :
    let s := loadingWith 0x41805A5A#32 1#32 4096#32 65536#32 64#32 8192#32
    s.host.runState = .loading ∧ s.loader = .checking ∧ (∀ j < 16, s.ram.faulty (4 * j) = false)
      ∧ s.readHeader.faultCode = .none ∧ (s.ram.word 8).toNat = 4096 ∧ (s.ram.word 20).toNat = 8192
      ∧ (∀ j < 16, s.ram.faulty (8192 + 4 * j) = false) ∧ ((s.ram.word 8192).extractLsb' 16 8).toNat ≤ 15 := by decide +kernel

theorem test_load_check :
    (after (exec .loadCheck (loadingWith 0x41805A5A#32 1#32 4096#32 65536#32 64#32 8192#32))).map
      (fun t => (t.host.runState, t.host.attention, t.load.map (·.sweepInterval))) = some (.halted, 0x001#9, some 100) := by
  decide +kernel

/-! ## Witnesses and worked cases: the Price Engine (chapter 5) -/

def adjust (kind : CardKind) (w0 : Word) (amount : Int) (ending floor : Word) (panel : Bool) (basis : UnitBasis) (net : Nat)
    (working : Image) : EngineInput :=
  { kind := kind, card := ⟨w0, 0#32, BitVec.ofInt 32 amount, ending, floor⟩, panel := panel, basis := basis, net := net,
    working := working }

/-- "A department markdown with twin and ending". -/
def markdown : EngineInput :=
  adjust .adjustPercent 0x1402#32 (-3000) 99#32 0#32 true .perKg 750 { primary := 2499, partner := 2299, unit := 0, badges := 1#8 }

theorem test_markdown :
    evaluate markdown = .newImage { primary := 1699, partner := 1599, unit := 2265, badges := 1#8 } false 1749 := by
  decide +kernel
theorem witness_NewImagesStayInThePriceRange :
    markdown.kind.targeting = true ∧ markdown.card.operandsInRange markdown.kind = true := by decide +kernel
/-- Half up, and a raw result above the ceiling, below the floor and without a candidate. -/
theorem witness_AdjustmentsPassFourStages :
    markdown.kind = .adjustPercent ∧ markdown.card.operandsInRange markdown.kind = true
      ∧ markdown.card.guardCode = 1
      ∧ evaluate (adjust .adjustAmount 0x803#32 1 99#32 0#32 true .none 0 ⟨9999999, 0, 0, 0#8⟩) = .notApplied
      ∧ evaluate (adjust .adjustAmount 0x3#32 0 0xFFFFFFFF#32 0#32 true .none 0 ⟨5, 0, 0, 0#8⟩) = .same
      ∧ evaluate (adjust .adjustAmount 0x3#32 (-9) 99#32 0#32 true .none 0 ⟨5, 0, 0, 0#8⟩) = .newImage ⟨1, 0, 0, 0#8⟩ true (-4)
      ∧ evaluate (adjust .adjustAmount 0x3#32 9 50#32 0#32 true .none 0 ⟨9999998, 0, 0, 0#8⟩)
        = .newImage ⟨9999950, 0, 0, 0#8⟩ true 10000007 := by decide +kernel
/-- A PRICE card that changes, keeps and guards; a BADGE card that matches, changes nothing and does not match. -/
theorem witness_AdjustmentsPassFourStages_others :
    (let card := fun w0 => (⟨w0, 0#32, 199#32, 0xFFFFFFFF#32, 0#32⟩ : Card)
      let i := fun (w0 : Word) (p : Nat) => (⟨.price, card w0, true, .perKg, 750, ⟨p, 7, 265, 0#8⟩⟩ : EngineInput)
      (∀ w0 ∈ [1, 0x401, 0x801], (card (BitVec.ofNat 32 w0)).operandsInRange .price = true)
        ∧ evaluate (i 1#32 200) = .newImage ⟨199, 7, 265, 0#8⟩ false 199 ∧ evaluate (i 1#32 199) = .same
        ∧ evaluate (i 0x401#32 199) = .notApplied ∧ evaluate (i 0x801#32 200) = .notApplied)
    ∧ (let i := fun (w8 w12 : Word) (p : Nat) =>
        (⟨.badge, ⟨4#32, 0#32, w8, w12, 0#32⟩, true, .none, 0, ⟨p, 0, 0, 5#8⟩⟩ : EngineInput)
      (⟨4#32, 0#32, 0x01810408#32, 1#32, 0#32⟩ : Card).operandsInRange .badge = true
        ∧ evaluate (i 0x01810408#32 1#32 5) = .newImage ⟨5, 0, 0, 0x88#8⟩ false 5 ∧ evaluate (i 0x01000000#32 1#32 5) = .same
        ∧ evaluate (i 0x01810408#32 0#32 5) = .notApplied ∧ evaluate (i 0x01810408#32 1#32 0) = .notApplied)
    ∧ evaluate (adjust .adjustAmount 0x3#32 9 50#32 0#32 true .none 0 ⟨0, 0, 0, 0#8⟩) = .badBase := by decide +kernel
theorem test_half_up : rawPercent 25 (-5000) = 13 ∧ rawPercent 1005 5000 = 1508 ∧ rawPercent 1250 (-200) = 1225 := by decide +kernel
theorem test_unit_price :
    unitPrice .per100g 200 5 = (3, false) ∧ unitPrice .per100g 333 5 = (2, false) ∧ unitPrice .per100g 400 5 = (1, false)
      ∧ unitPrice .perKg 1 9999999 = (9999999, true) ∧ unitPrice .perPiece 999999 1 = (1, false)
      ∧ unitPrice .perL 0 1000 = (0, false) ∧ unitPrice .none 750 1000 = (0, false) := by decide +kernel
theorem test_unchanged :
    evaluate (adjust .adjustPercent 0x2#32 250 0#32 0#32 true .none 0 ⟨1000, 0, 0, 0#8⟩) = .same := by decide +kernel
/-- "Badges": set MEMBER, clear NEW, toggle SALE and ECO, on SALE and NEW. -/
theorem test_badges : badgesAfter ⟨4#32, 0#32, 0x02810408#32, 0#32, 0#32⟩ 0x05#8 = 0x88#8 := by decide +kernel
theorem test_digits :
    digitString 1699 = [15, 15, 15, 1, 6, 9, 9] ∧ digitString 5 = [15, 15, 15, 15, 0, 0, 5]
      ∧ digitString 100000 = [15, 1, 0, 0, 0, 0, 0] ∧ digitString 9999999 = [9, 9, 9, 9, 9, 9, 9]
      ∧ digitString 10050 = [15, 15, 1, 0, 0, 5, 0] := by decide +kernel
theorem witness_DigitStringsBlankLeadingZeros : (0 : Nat) ≤ 9999999 ∧ (9999999 : Nat) ≤ 9999999 ∧ 0 < 1 := by decide

/-! ## Witnesses and worked cases: encodings, schedule, versions, invariants -/

/-- The walk of ticket 5 as 11, "An Urgent Ticket", parks it: index 1,300, 748 left, department 15. -/
def parked : Walk :=
  { slot := 5, link := .short 1#16, next := .nextIteration, stack := []
    span :=
      some
        { start := 1024, remaining := 748, stride := 1, current := 1300, startDepartment := some 15#8, untilDepartment := true,
          body := .short 1#16, exit := some (.short 2#16), depth := 0 }
    parkRequest := false, endRequest := none, fresh := false, body := false, phase := .ready }

theorem witness_WalkContextsSurviveParking : parked.fits := by
  refine ⟨by decide, fun _ => rfl, rfl, fun f hf => ?_⟩
  cases hf
  decide
/-- A MARK before which parking is asked, with an URGENT ticket QUEUED and with none. -/
theorem witness_WalkContextsSurviveParking_boundary :
    ∀ more ∈ [[], [(31, { someTicket .queued with cls := .urgent })]],
      let s := withTickets (atCard 7#32 100#32 0#32 0#32 firstWalk) ((0, someTicket .walking) :: more)
      s.BeforeCard firstWalk (someTicket .walking) firstWalk.link 512 ∧ firstWalk.next ≠ .nextIteration
        ∧ firstWalk.body = false ∧ rising s.unit.tickets = true ∧ (7#32 : Word).extractLsb' 0 8 = 7#8
        ∧ linkOfWord 0x20001#32 ≠ .null := by
  have h : ∀ more ∈ [[], [(31, { someTicket .queued with cls := .urgent })]],
      Before (withTickets (atCard 7#32 100#32 0#32 0#32 firstWalk) ((0, someTicket .walking) :: more)) firstWalk
        (someTicket .walking) firstWalk.link
      ∧ rising (withTickets (atCard 7#32 100#32 0#32 0#32 firstWalk) ((0, someTicket .walking) :: more)).unit.tickets = true := by
    decide +kernel
  exact fun more hm => ⟨before (h more hm).1, by decide, by decide, (h more hm).2, by decide, by decide⟩

/-- The hypotheses of a walk's end in decidable form. -/
abbrev MayEnd (s : State) (k : Ticket) : Prop :=
  (rising s.unit.tickets = true ∧ s.ticket 0 = some k) ∧ (s.boardBase % 4096 = 0 ∧ 0 < 32) ∧ s.ram.wf = true
    ∧ s.oneEntryEach = true

/-- A link to the board; a card limit reached; a card with a fault in its last word. -/
theorem witness_WalkContextsSurviveParking_readsEnd :
    (let w := { firstWalk with link := .long 128#17 }
      let s := atCard 7#32 0#32 0#32 0#32 w
      s.WalkerReady w (someTicket .walking) ∧ s.WalkMayEnd 0 (someTicket .walking) ∧ s.resolveLink 16384 w.link = .bad)
    ∧ (let k := { someTicket .walking with tallies := (List.replicate 17 0#32).set 0 40#32 }
      let s := atCardTo 0x20001#32 k 7#32 0#32 0#32 0#32 firstWalk
      s.WalkerReady firstWalk k ∧ s.WalkMayEnd 0 k ∧ s.resolveLink 16384 firstWalk.link = .card 512
        ∧ k.cardLimit ≤ (k.count 0).toNat)
    ∧ (let s := spoiled (atCard 7#32 0#32 0#32 0#32 firstWalk) 16412
      s.WalkerReady firstWalk (someTicket .walking) ∧ s.WalkMayEnd 0 (someTicket .walking)
        ∧ s.loadHeld = true ∧ s.ram.faulty (32 * 512 + 4 * 7) = true) := by
  refine ⟨⟨walker_ready ?_, may_end ?_, ?_⟩, ⟨walker_ready ?_, may_end ?_, ?_⟩, walker_ready ?_, may_end ?_, ?_⟩ <;>
    decide +kernel
/-- An INCLUDE at depth 4, one to the board, one that ends its level, an END of the outermost level; and a span whose index
lies beyond the directory, with a NULL exit link over a stack of NULLs. -/
theorem witness_WalkContextsSurviveParking_ends :
    (∀ c ∈ [(0x20001#32, 6#32, 0x20001#32, { firstWalk with stack := List.replicate 4 (.short 1#16) }),
        (0x20001#32, 6#32, 0x40080#32, firstWalk), (0#32, 6#32, 0#32, firstWalk), (0x20001#32, 8#32, 0#32, firstWalk)],
      let s := atCardTo c.1 (someTicket .walking) c.2.1 c.2.2.1 0#32 0#32 c.2.2.2
      s.BeforeCard c.2.2.2 (someTicket .walking) c.2.2.2.link 512 ∧ s.WalkMayEnd 0 (someTicket .walking))
    ∧ running.resolveLink 16384 (linkOfWord 0x40080#32) = .bad
    ∧ (let w := { spanWalk 2048 with stack := [.null, .null] }
      let s := atCardTo 0#32 (someTicket .walking) 7#32 0#32 0#32 0#32 w
      s.BeforeCard w (someTicket .walking) (spanAt 2048).body 512 ∧ s.WalkMayEnd 0 (someTicket .walking)
        ∧ s.directorySize = 2048) := by
  have h : ∀ c ∈ [(0x20001#32, 6#32, 0x20001#32, { firstWalk with stack := List.replicate 4 (.short 1#16) }),
        (0x20001#32, 6#32, 0x40080#32, firstWalk), (0#32, 6#32, 0#32, firstWalk), (0x20001#32, 8#32, 0#32, firstWalk)],
      Before (atCardTo c.1 (someTicket .walking) c.2.1 c.2.2.1 0#32 0#32 c.2.2.2) c.2.2.2 (someTicket .walking) c.2.2.2.link
      ∧ MayEnd (atCardTo c.1 (someTicket .walking) c.2.1 c.2.2.1 0#32 0#32 c.2.2.2) (someTicket .walking) := by decide +kernel
  refine ⟨fun c hc => ⟨before (h c hc).1, may_end (h c hc).2⟩, by decide +kernel, before ?_, may_end ?_, ?_⟩ <;>
    decide +kernel
theorem test_parked_walk_resumes : walkOfResume 5 parked.resumeWords = parked := by decide +kernel
/-- A repeated body parks and resumes as the body (R71, R187; log 39). -/
theorem test_parked_body_resumes :
    let w := { bodyWalk with fresh := false }
    walkOfResume 0 w.resumeWords = w := by decide +kernel
theorem test_wake_slots :
    [0, 1, 2, 3, 5, 63, 70, 1025].map wakeSlot = [0, 32, 16, 48, 40, 63, 24, 32]
      ∧ [(64, 0), (64, 3), (128, 3), (192, 3), (384, 5), (1000, 2), (2112, 5)].map (fun p => wakePhase p.1 p.2)
        = [0, 4, 2, 6, 12, 3, 16] := by decide +kernel
theorem witness_WakePlacesAreBitReversals :
    (someEntry .waitingUpdate).exponent = 0 ∧ (someEntry .waitingUpdate).phase = wakePhase 5 0
      ∧ (someEntry .waitingUpdate).rushing = false
      ∧ ({ someEntry .waitingUpdate with exponent := 5, phase := 16 } : Entry).phase = wakePhase 2112 5 := by decide +kernel
theorem test_versions : newerVersion 3#16 65530#16 = true ∧ nextVersion 65535#16 = 1#16 ∧ nextVersion 41#16 = 42#16 := by
  decide +kernel
theorem witness_VersionsCompareOnACircle :
    (0x8000#16 - 0#16 = 0x8000#16) ∧ running.entry 5 = none
      ∧ running.enterAnswer 5 false .overnight 41#16 = .accepted 42#16
      ∧ (let e := { someEntry .waitingUpdate with offered := true };
        (withEntries running [e]).entry 5 = some e ∧ (withEntries running [e]).enterAnswer 5 true .overnight 0#16 = .accepted 43#16)
      ∧ newerVersion 41#16 42#16 = false ∧ (42#16 : BitVec 16) ≠ 41#16 := by decide +kernel
theorem witness_StepsKeepTheRamForm : State.reset.ram.wf = true ∧ (after (step State.reset)).isSome = true := by decide +kernel
theorem witness_StepsKeepOneEntryEach :
    expiring.oneEntryEach = true ∧ (after (step { expiring with pending := [.ticketExpiry 3#5] })).isSome = true := by
  decide +kernel
theorem witness_StepsKeepTheScheduleToTheRunState :
    running.scheduleFollows = true ∧ running.loadHeld = true ∧ (after (step { running with pending := [.slotEnd] })).isSome = true := by decide +kernel
theorem witness_OnlyTheHostClearsACause :
    Instr.run ≠ .powerOnReset ∧ (after (exec .run halted)).isSome = true ∧ (0xF00010#24).toNat / 4 ≠ 0xF0000C / 4 := by
  decide +kernel
theorem test_power_on_reset :
    (after (exec .powerOnReset running)).map (fun t => (t.host.runState, t.ram.generation)) = some (.unloaded, 1) := by
  decide +kernel

end Sys2Proof.Tests
end

section
/-! The wake schedule and the circle of versions (01_the_label_directory.md, R14 to R16; R26): what a bit reversal is, when an
entry outside rush is counted as listening, and which version a change is accepted under. -/

namespace Sys2Proof.Machine

/-! ## The bit reversal -/

theorem bitReverse_lt (k x : Nat) : bitReverse k x < 2 ^ k := by
  induction k generalizing x with
  | zero => exact Nat.one_pos
  | succ k ih =>
    have htop : x % 2 * 2 ^ k ≤ 1 * 2 ^ k := Nat.mul_le_mul_right _ (by omega)
    have hrest := ih (x / 2)
    simp only [bitReverse, Nat.pow_succ]
    omega

/-- The lowest bit of `x` becomes the top bit; the others are reversed below it. -/
theorem testBit_bitReverse {k j : Nat} (hj : j < k) (x : Nat) : (bitReverse k x).testBit j = x.testBit (k - 1 - j) := by
  induction k generalizing x with
  | zero => omega
  | succ k ih =>
    rw [bitReverse, Nat.mul_comm, Nat.testBit_two_pow_mul_add _ (bitReverse_lt k _)]
    split
    case isTrue hlow =>
      rw [ih hlow, Nat.testBit_div_two, show k - 1 - j + 1 = k + 1 - 1 - j by omega]
    case isFalse htop =>
      obtain rfl : j = k := by omega
      simp [Nat.testBit_zero]

theorem testBit_bitReverse_of_le {k j : Nat} (hj : k ≤ j) (x : Nat) : (bitReverse k x).testBit j = false :=
  Nat.testBit_lt_two_pow ((bitReverse_lt k x).trans_le (Nat.pow_le_pow_right Nat.two_pos hj))

/-- Only the low `k` bits count, and they can be read back. -/
theorem bitReverse_eq_iff (k x y : Nat) : bitReverse k x = bitReverse k y ↔ x % 2 ^ k = y % 2 ^ k := by
  constructor
  case mp =>
    refine fun h => Nat.eq_of_testBit_eq fun j => ?_
    by_cases hj : j < k
    · have hbit := congrArg (·.testBit (k - 1 - j)) h
      simpa [testBit_bitReverse (show k - 1 - j < k by omega), hj, show k - 1 - (k - 1 - j) = j by omega] using hbit
    · simp [hj]
  case mpr =>
    refine fun h => Nat.eq_of_testBit_eq fun j => ?_
    by_cases hj : j < k
    · have hbit := congrArg (·.testBit (k - 1 - j)) h
      simpa [testBit_bitReverse hj, show k - 1 - j < k by omega] using hbit
    · rw [testBit_bitReverse_of_le (by omega), testBit_bitReverse_of_le (by omega)]

/-! ## Wake slot and phase (R15, R16) -/

theorem wakeSlot_lt (i : Nat) : wakeSlot i < 64 := bitReverse_lt 6 _

theorem testBit_wakeSlot {k : Nat} (hk : k < 6) (i : Nat) : (wakeSlot i).testBit k = i.testBit (5 - k) := by
  rw [wakeSlot, testBit_bitReverse hk, show (64 : Nat) = 2 ^ 6 from rfl, Nat.testBit_mod_two_pow,
    decide_eq_true (show 6 - 1 - k < 6 by omega), Bool.true_and]

theorem wakeSlot_eq_iff (i j : Nat) : wakeSlot i = wakeSlot j ↔ i % 64 = j % 64 := by
  simp [wakeSlot, bitReverse_eq_iff]

theorem wakePhase_lt (i n : Nat) : wakePhase i n < 2 ^ n := bitReverse_lt n _

theorem testBit_wakePhase {n k : Nat} (hk : k < n) (i : Nat) :
    (wakePhase i n).testBit k = (i / 64).testBit (n - 1 - k) := by
  rw [wakePhase, testBit_bitReverse hk, Nat.testBit_mod_two_pow, decide_eq_true (show n - 1 - k < n by omega),
    Bool.true_and]

/-! ## The one listening cycle of a period (R26) -/

/-- The 16-bit cycle number wraps at a multiple of every period `2 ^ n` of at most 16 bits, so the wrap does not show. -/
theorem Entry.listensIn_iff {e : Entry} (hrush : e.rushing = false) (hexp : e.exponent ≤ 16) (cycle : Nat) :
    e.listensIn (BitVec.ofNat 16 cycle) = true ↔ cycle % 2 ^ e.exponent = e.phase := by
  simp [Entry.listensIn, hrush, Nat.mod_mod_of_dvd cycle (Nat.pow_dvd_pow 2 hexp)]

theorem exists_unique_offset_of_residue (c : Nat) {m p : Nat} (hp : p < m) :
    ∃ k, k < m ∧ (c + k) % m = p ∧ ∀ j, j < m → (c + j) % m = p → j = k := by
  have hpos : 0 < m := by omega
  have hit : (c + (m - c % m + p) % m) % m = p := by
    have hc := Nat.mod_add_div c m
    have hlt := Nat.mod_lt c hpos
    rw [Nat.add_mod_mod, show c + (m - c % m + p) = p + m * (c / m + 1) by rw [Nat.mul_succ]; omega,
      Nat.add_mul_mod_self_left, Nat.mod_eq_of_lt hp]
  refine ⟨(m - c % m + p) % m, Nat.mod_lt _ hpos, hit, fun j hj hjp => ?_⟩
  have hcongr : j ≡ (m - c % m + p) % m [MOD m] := Nat.ModEq.add_left_cancel' c (hjp.trans hit.symm)
  exact hcongr.eq_of_lt_of_lt hj (Nat.mod_lt _ hpos)

theorem Entry.listens_once_per_period {e : Entry} (hrush : e.rushing = false) (hexp : e.exponent ≤ 16)
    (hphase : e.phase < 2 ^ e.exponent) (c : Nat) :
    ∃ k, k < 2 ^ e.exponent ∧ e.listensIn (BitVec.ofNat 16 (c + k)) = true
      ∧ ∀ j, j < 2 ^ e.exponent → e.listensIn (BitVec.ofNat 16 (c + j)) = true → j = k := by
  simpa only [Entry.listensIn_iff hrush hexp] using exists_unique_offset_of_residue c hphase

/-! ## Versions on a circle (R14) -/

theorem newerVersion_iff (v d : BitVec 16) : newerVersion v d = true ↔ 1 ≤ (v - d).toNat ∧ (v - d).toNat ≤ 32767 := by
  simp [newerVersion]

theorem nextVersion_eq (v : BitVec 16) : nextVersion v = if v = 0xFFFF#16 then 1#16 else v + 1#16 := by
  have hwrap : v + 1#16 = 0#16 ↔ v = 0xFFFF#16 := by bv_omega
  simp only [nextVersion, hwrap]

/-- The difference 32,768 is its own negative on the circle, and is one too far in both directions. -/
theorem newerVersion_opposite {v d : BitVec 16} (h : v - d = 0x8000#16) :
    newerVersion v d = false ∧ newerVersion d v = false := by
  have hback : d - v = 0x8000#16 := by bv_omega
  simp [newerVersion, h, hback]

theorem newerVersion_self (v : BitVec 16) : newerVersion v v = false := by simp [newerVersion]

/-! ## The version of an accepted change (R14, R108) -/

/-- An enter request that reads no entry is accepted under the version after the displayed one. -/
theorem State.enterAnswer_accepted_of_none {s : State} {i : Nat} {cls : TicketClass} {d v : BitVec 16}
    (hnone : s.entry i = none) (h : s.enterAnswer i false cls d = .accepted v) : v = nextVersion d := by
  rw [State.enterAnswer, hnone] at h
  by_cases hfull : s.roster.fullFor cls = true
  · simp [hfull] at h
  · simpa [hfull] using h.symm

/-- An enter request for an entry is accepted under the version R14 gives that entry's next image. -/
theorem State.enterAnswer_accepted_of_some {s : State} {i : Nat} {fromEntry : Bool} {cls : TicketClass} {d v : BitVec 16}
    {e : Entry} (hsome : s.entry i = some e) (h : s.enterAnswer i fromEntry cls d = .accepted v) :
    v = e.acceptedVersion := by
  simp only [State.enterAnswer, hsome] at h
  split at h
  case isTrue => contradiction
  case isFalse =>
    split at h
    case isTrue => contradiction
    case isFalse =>
      split at h
      case isTrue => contradiction
      case isFalse => exact (EnterAnswer.accepted.inj h).symm

/-- A label that displays another version, and one that the offered version is not newer than, refuses it (R14, R145). -/
theorem Label.hearUpdate_rejects {l : Label} {im : LabelImage} (q : BitVec 8) (hne : l.displayed.version ≠ im.version)
    (hold : newerVersion im.version l.displayed.version = false) : (l.hearUpdate im q).2.result = .rejected := by
  simp [Label.hearUpdate, Label.notOlder, Label.reply, hne, hold]

end Sys2Proof.Machine

namespace Sys2Proof.LabelDirectory
open Sys2Proof.Machine

/-- Settles O54: the bits of the reversal give slot and phase, and each period holds every residue once. -/
theorem wakePlacesAreBitReversals : Obligations.WakePlacesAreBitReversals := by
  intro i
  refine ⟨wakeSlot_lt i, fun k hk => testBit_wakeSlot hk i, wakeSlot_eq_iff i, fun n hn =>
    ⟨wakePhase_lt i n, fun k hk => testBit_wakePhase hk i, fun e c hexp hphase hrush => ?_⟩⟩
  subst hexp
  exact Entry.listens_once_per_period hrush (by omega) (hphase ▸ wakePhase_lt i e.exponent) c

/-- Settles O55: each clause is the rule of the version operation it speaks of. -/
theorem versionsCompareOnACircle : Obligations.VersionsCompareOnACircle :=
  ⟨newerVersion_iff, nextVersion_eq, fun _ _ h => newerVersion_opposite h, newerVersion_self,
    fun _ _ _ _ _ hnone h => State.enterAnswer_accepted_of_none hnone h,
    fun _ _ _ _ _ _ hsome h => State.enterAnswer_accepted_of_some hsome h,
    fun _ _ q hne hold => Label.hearUpdate_rejects q hne hold⟩

end Sys2Proof.LabelDirectory
end

section
/-! The stance of the part: the fields that the run states govern (R24, R127, R143, R178, R183), and that the acts
of the blocks leave it as it is. -/

namespace Sys2Proof.Machine

/-! ## The stance -/

/-- What the schedule's invariant reads of a state: the run state, whether the schedule stands still, the radio with its
restart mark, whether the Loader is idle, and the load. -/
structure Stance where
  runState : RunState
  stopped : Bool
  radio : RadioState
  restartMark : Bool
  loaderIdle : Bool
  load : Option Load

def State.stance (s : State) : Stance :=
  { runState := s.host.runState, stopped := s.time.position == .stopped, radio := s.air.radio,
    restartMark := s.air.restartMark, loaderIdle := s.loader == .idle, load := s.load }

theorem State.stance_ite (c : Prop) [Decidable c] (s t : State) :
    (if c then s else t).stance = if c then s.stance else t.stance := apply_ite State.stance c s t

/-- A run of acts that each leave the stance leaves it. -/
theorem foldl_stance {α : Type} {f : State → α → State} (hf : ∀ s a, (f s a).stance = s.stance) (l : List α)
    (s : State) : (l.foldl f s).stance = s.stance := by
  induction l generalizing s with
  | nil => rfl
  | cons a rest ih => rw [List.foldl_cons, ih, hf]

/-! ## Updates of the blocks -/

@[simp] theorem State.onRam_stance (s : State) (f : Ram → Ram) : (s.onRam f).stance = s.stance := by simp [State.stance]
@[simp] theorem State.onUnit_stance (s : State) (f : TicketUnit → TicketUnit) : (s.onUnit f).stance = s.stance := by
  simp [State.stance]
@[simp] theorem State.onRoster_stance (s : State) (f : Roster → Roster) : (s.onRoster f).stance = s.stance := by
  simp [State.stance]
@[simp] theorem State.onCache_stance (s : State) (f : Cache → Cache) : (s.onCache f).stance = s.stance := by
  simp [State.stance]
@[simp] theorem State.withWalk_stance (s : State) (w : Option Walk) : (s.withWalk w).stance = s.stance := by
  simp [State.stance]
@[simp] theorem State.withPending_stance (s : State) (q : List Instr) : (s.withPending q).stance = s.stance := by
  simp [State.stance]

@[simp] theorem State.onHost_stance {s : State} {f : HostLink → HostLink} (h : (f s.host).runState = s.host.runState) :
    (s.onHost f).stance = s.stance := by simp [State.stance, h]

@[simp] theorem State.onTime_stance {s : State} {f : Timebase → Timebase} (h : (f s.time).position = s.time.position) :
    (s.onTime f).stance = s.stance := by simp [State.stance, h]

@[simp] theorem State.onAir_stance {s : State} {f : AirLink → AirLink} (hradio : (f s.air).radio = s.air.radio)
    (hmark : (f s.air).restartMark = s.air.restartMark) : (s.onAir f).stance = s.stance := by
  simp [State.stance, hradio, hmark]

/-! ## Named updates -/

@[simp] theorem State.latch_stance (s : State) (c : Cause) : (s.latch c).stance = s.stance := by simp [State.latch]
@[simp] theorem State.latchIf_stance (s : State) (b : Bool) (c : Cause) : (s.latchIf b c).stance = s.stance := by
  simp [State.latchIf, State.stance_ite]

@[simp] theorem State.putWord_stance (s : State) (a : Nat) (w : Word) : (s.putWord a w).stance = s.stance := by
  simp [State.putWord]
@[simp] theorem State.ramWrite_stance (s : State) (a : Nat) (w : Word) : (s.ramWrite a w).stance = s.stance := by
  simp [State.ramWrite]
@[simp] theorem State.setTicket_stance (s : State) (n : Nat) (t : Ticket) : (s.setTicket n t).stance = s.stance := by
  simp [State.setTicket]
@[simp] theorem State.dropTicket_stance (s : State) (n : Nat) : (s.dropTicket n).stance = s.stance := by
  simp [State.dropTicket]
@[simp] theorem State.putTicketWord_stance (s : State) (n off : Nat) (w : Word) :
    (s.putTicketWord n off w).stance = s.stance := by simp [State.putTicketWord]
@[simp] theorem State.finishCommand_stance (s : State) (r : CommandResult) : (s.finishCommand r).stance = s.stance := by
  simp [State.finishCommand]
@[simp] theorem State.beginCommand_stance (s : State) (c : ActiveCommand) : (s.beginCommand c).stance = s.stance := by
  simp [State.beginCommand]
@[simp] theorem State.giveResult_stance (s : State) (r : CommandResult) : (s.giveResult r).stance = s.stance := by
  simp [State.giveResult]
@[simp] theorem State.nameCommand_stance (s : State) (code : BitVec 4) : (s.nameCommand code).stance = s.stance := by
  simp [State.nameCommand]
@[simp] theorem State.refuse_stance (s : State) (code : BitVec 4) (r : CommandResult) :
    (s.refuse code r).stance = s.stance := by simp [State.refuse]
@[simp] theorem State.changeEntry_stance (s : State) (i : Nat) (f : Entry → Entry) :
    (s.changeEntry i f).stance = s.stance := by simp [State.changeEntry]
@[simp] theorem State.removeEntry_stance (s : State) (i : Nat) : (s.removeEntry i).stance = s.stance := by
  simp [State.removeEntry]
@[simp] theorem State.joinEntry_stance (s : State) (e : Entry) : (s.joinEntry e).stance = s.stance := by
  simp [State.joinEntry]
@[simp] theorem State.awaitRemovals_stance (s : State) (n : Nat) : (s.awaitRemovals n).stance = s.stance := by
  simp [State.awaitRemovals]
@[simp] theorem State.enterTurns_stance (s : State) (l : List Nat) : (s.enterTurns l).stance = s.stance := by
  simp [State.enterTurns]
@[simp] theorem State.changeWalk_stance (s : State) (f : Walk → Walk) : (s.changeWalk f).stance = s.stance := by
  simp [State.changeWalk]
@[simp] theorem State.reportRoom_stance (s : State) : s.reportRoom.stance = s.stance := by simp [State.reportRoom]
@[simp] theorem State.reportTurnEnd_stance (s : State) (i : Nat) : (s.reportTurnEnd i).stance = s.stance := by
  simp [State.reportTurnEnd]
@[simp] theorem State.askAir_stance (s : State) (r : Request) : (s.askAir r).stance = s.stance := by simp [State.askAir]
@[simp] theorem State.askDelivery_stance (s : State) (i : Nat) (d : DeliveryState) :
    (s.askDelivery i d).stance = s.stance := by simp [State.askDelivery]
@[simp] theorem State.keyFrame_stance (s : State) (b : List Byte) : (s.keyFrame b).stance = s.stance := by
  simp [State.keyFrame]
@[simp] theorem State.unkey_stance (s : State) : s.unkey.stance = s.stance := by simp [State.unkey]
@[simp] theorem State.setStage_stance (s : State) (g : AirStage) : (s.setStage g).stance = s.stance := by
  simp [State.setStage]
@[simp] theorem State.closeTurn_stance (s : State) (n : Nat) : (s.closeTurn n).stance = s.stance := by
  simp [State.closeTurn]
@[simp] theorem State.turnRead_stance (s : State) (n : Nat) (c : TurnContent) : (s.turnRead n c).stance = s.stance := by
  simp [State.turnRead]
@[simp] theorem State.dropAwaitedTurns_stance (s : State) : s.dropAwaitedTurns.stance = s.stance := by
  simp [State.dropAwaitedTurns]
@[simp] theorem State.refreshRush_stance (s : State) : s.refreshRush.stance = s.stance := by simp [State.refreshRush]
@[simp] theorem State.markExpiries_stance (s : State) (now : Word) : (s.markExpiries now).stance = s.stance := by
  simp [State.markExpiries]
@[simp] theorem State.startSweep_stance (s : State) : s.startSweep.stance = s.stance := by simp [State.startSweep]

/-! ## Tickets and their reports -/

@[simp] theorem State.changeTicket_stance (s : State) (n : Nat) (f : Ticket → Ticket) :
    (s.changeTicket n f).stance = s.stance := by
  unfold State.changeTicket; split <;> simp

@[simp] theorem State.countTally_stance (s : State) (n : Nat) (k : Tally) : (s.countTally n k).stance = s.stance := by
  unfold State.countTally; split <;> simp

@[simp] theorem State.putTallies_stance (s : State) (n : Nat) (t : Ticket) : (s.putTallies n t).stance = s.stance := by
  unfold State.putTallies
  exact foldl_stance (fun s _ => s.putTicketWord_stance n _ _) _ s

@[simp] theorem State.zeroTallies_stance (s : State) (n : Nat) : (s.zeroTallies n).stance = s.stance := by
  simp only [State.zeroTallies, State.putTicketWord_stance]
  exact foldl_stance (fun s _ => s.putTicketWord_stance _ _ _) _ s

@[simp] theorem State.writeException_stance (s : State) (n : Nat) (e : ExceptionEntry) :
    (s.writeException n e).stance = s.stance := by
  unfold State.writeException; split <;> simp [State.stance_ite]

@[simp] theorem State.writeExceptionOf_stance (s : State) (n : Nat) (e : Option ExceptionEntry) :
    (s.writeExceptionOf n e).stance = s.stance := by
  cases e <;> simp [State.writeExceptionOf]

@[simp] theorem State.putSettlement_stance (s : State) (n : Nat) (o : TicketOutcome) (r : Reason) (c : Option Nat) :
    (s.putSettlement n o r c).stance = s.stance := by simp [State.putSettlement]

@[simp] theorem State.settleUnheld_stance (s : State) (n : Nat) (o : TicketOutcome) (r : Reason) :
    (s.settleUnheld n o r).stance = s.stance := by simp [State.settleUnheld]

@[simp] theorem State.settle_stance (s : State) (n : Nat) : (s.settle n).stance = s.stance := by
  unfold State.settle; split <;> simp

@[simp] theorem State.settleIfDone_stance (s : State) (n : Nat) : (s.settleIfDone n).stance = s.stance := by
  unfold State.settleIfDone; split <;> simp [State.stance_ite]

@[simp] theorem State.reportDelivery_stance (s : State) (n : Nat) (k : Tally) (e : Option ExceptionEntry) :
    (s.reportDelivery n k e).stance = s.stance := by simp [State.reportDelivery]

@[simp] theorem State.reportWork_stance (s : State) (n : Nat) (k : Tally) (e : Option ExceptionEntry) :
    (s.reportWork n k e).stance = s.stance := by simp [State.reportWork]

/-! ## The Roster -/

@[simp] theorem State.rejoinEntry_stance (s : State) (i : Nat) : (s.rejoinEntry i).stance = s.stance := by
  unfold State.rejoinEntry; split <;> simp

@[simp] theorem State.finishCancel_stance (s : State) : s.finishCancel.stance = s.stance := by
  unfold State.finishCancel; split <;> simp [State.stance_ite]

@[simp] theorem State.closeEntry_stance (s : State) (e : Entry) (c : Closing) :
    (s.closeEntry e c).stance = s.stance := by
  simp [State.closeEntry]

@[simp] theorem State.beginRemoval_stance (s : State) (i : Nat) (c : Closing) :
    (s.beginRemoval i c).stance = s.stance := by
  simp [State.beginRemoval]

@[simp] theorem State.expireEntry_stance (s : State) (i : Nat) : (s.expireEntry i).stance = s.stance := by
  unfold State.expireEntry; split
  · rfl
  next e _ => cases e.state <;> simp [State.stance_ite]

@[simp] theorem State.cancelEntry_stance (s : State) (i : Nat) : (s.cancelEntry i).stance = s.stance := by
  unfold State.cancelEntry; split
  · rfl
  next e _ => cases e.state <;> simp [State.stance_ite]

@[simp] theorem State.expireEntries_stance (s : State) (n : Nat) : (s.expireEntries n).stance = s.stance := by
  simp [State.expireEntries, foldl_stance State.expireEntry_stance]

@[simp] theorem State.cancelEntries_stance (s : State) (n : Nat) : (s.cancelEntries n).stance = s.stance := by
  simp [State.cancelEntries, foldl_stance State.cancelEntry_stance]

@[simp] theorem State.deferredActions_stance (s : State) (i : Nat) : (s.deferredActions i).stance = s.stance := by
  unfold State.deferredActions; split <;> simp [State.stance_ite]

@[simp] theorem State.openDecision_stance (s : State) (i : Nat) (d : Decision) :
    (s.openDecision i d).stance = s.stance := by
  simp [State.openDecision]

@[simp] theorem State.openNewEntry_stance (s : State) (n : NewEntry) : (s.openNewEntry n).stance = s.stance := by
  simp [State.openNewEntry]

@[simp] theorem State.completeNew_stance (s : State) (n : NewEntry) : (s.completeNew n).stance = s.stance := by
  simp [State.completeNew]

@[simp] theorem State.completeMerge_stance (s : State) (e : Entry) (d : Decision) :
    (s.completeMerge e d).stance = s.stance := by simp [State.completeMerge]

@[simp] theorem State.completeSupersede_stance (s : State) (e : Entry) (d : Decision) :
    (s.completeSupersede e d).stance = s.stance := by simp [State.completeSupersede, State.stance_ite]

@[simp] theorem State.completeDecision_stance (s : State) (i : Nat) : (s.completeDecision i).stance = s.stance := by
  unfold State.completeDecision; split
  · simp
  · split
    · rfl
    · split <;> simp [State.stance_ite]

@[simp] theorem State.dropDecision_stance (s : State) (i : Nat) : (s.dropDecision i).stance = s.stance := by
  unfold State.dropDecision; split <;> simp

@[simp] theorem State.returnEntry_stance (s : State) (i : Nat) : (s.returnEntry i).stance = s.stance := by
  unfold State.returnEntry; split <;> simp [State.stance_ite]

@[simp] theorem State.returnEntries_stance (s : State) (slot : Nat) : (s.returnEntries slot).stance = s.stance := by
  simp [State.returnEntries, foldl_stance State.returnEntry_stance]

@[simp] theorem State.reportReply_stance (s : State) (i : Nat) (r : Reply) : (s.reportReply i r).stance = s.stance := by
  unfold State.reportReply; split <;> simp [State.stance_ite]

@[simp] theorem State.reportSilence_stance (s : State) (i : Nat) : (s.reportSilence i).stance = s.stance := by
  unfold State.reportSilence; split <;> simp [State.stance_ite]

@[simp] theorem State.endTurn_stance (s : State) (i : Nat) : (s.endTurn i).stance = s.stance := by
  unfold State.endTurn; split
  · rfl
  · split <;> simp

@[simp] theorem State.writeBackDelivery_stance (s : State) (i : Nat) : (s.writeBackDelivery i).stance = s.stance := by
  unfold State.writeBackDelivery; split
  · rfl
  · split <;> simp

@[simp] theorem State.statusWritten_stance (s : State) (i : Nat) : (s.statusWritten i).stance = s.stance := by
  unfold State.statusWritten; split <;> simp [State.stance_ite]

@[simp] theorem State.confirmRead_stance (s : State) (i : Nat) (ws : List Word) (known : Bool) :
    (s.confirmRead i ws known).stance = s.stance := by
  unfold State.confirmRead; split <;> simp [State.stance_ite]

@[simp] theorem State.deliveryWritten_stance (s : State) (i : Nat) : (s.deliveryWritten i).stance = s.stance := by
  unfold State.deliveryWritten; split
  · rfl
  · split
    · simp
    · split <;> simp

/-! ## The end of a walk and the arbiter -/

@[simp] theorem State.endTicketWalk_stance (s : State) (n : Nat) (o : TicketOutcome) (r : Reason) (c : Option Nat) :
    (s.endTicketWalk n o r c).stance = s.stance := by
  unfold State.endTicketWalk; split <;> simp [State.stance_ite]

@[simp] theorem State.takeWalk_stance (s : State) (n : Nat) (w : Walk) : (s.takeWalk n w).stance = s.stance := by
  simp [State.takeWalk]

@[simp] theorem State.startWalk_stance (s : State) (n : Nat) (t : Ticket) : (s.startWalk n t).stance = s.stance := by
  simp [State.startWalk, State.stance_ite]

@[simp] theorem State.resumeWalk_stance (s : State) (n : Nat) : (s.resumeWalk n).stance = s.stance := by
  simp [State.resumeWalk, State.stance_ite]

theorem State.arbitrateUpTo_stance (k : Nat) (s : State) : (State.arbitrateUpTo k s).stance = s.stance := by
  induction k generalizing s with
  | zero => rfl
  | succ k ih =>
    unfold State.arbitrateUpTo; split
    · rfl
    · split <;> simp [ih, State.stance_ite]

@[simp] theorem State.arbitrate_stance (s : State) : s.arbitrate.stance = s.stance := by
  rw [State.arbitrate, State.arbitrateUpTo_stance]

@[simp] theorem State.endWalk_stance (s : State) (o : TicketOutcome) (r : Reason) (c : Option Nat) :
    (s.endWalk o r c).stance = s.stance := by
  unfold State.endWalk; split <;> simp

@[simp] theorem State.endWalkAtCard_stance (s : State) (o : TicketOutcome) (r : Reason) (c : Option Nat) :
    (s.endWalkAtCard o r c).stance = s.stance := by
  unfold State.endWalkAtCard; split
  · rfl
  · split <;> simp

@[simp] theorem State.park_stance (s : State) : s.park.stance = s.stance := by
  unfold State.park; split
  · rfl
  · split <;> simp

@[simp] theorem State.cardBoundary_stance (s : State) : s.cardBoundary.stance = s.stance := by
  unfold State.cardBoundary; split
  · rfl
  · split <;> simp [State.stance_ite]

/-! ## The walker -/

@[simp] theorem State.goTo_stance (s : State) (p : Option Position) : (s.goTo p).stance = s.stance := by
  cases p <;> simp [State.goTo]

@[simp] theorem State.completeCard_stance (s : State) (c : Card) : (s.completeCard c).stance = s.stance := by
  unfold State.completeCard; split <;> simp

@[simp] theorem State.refuseCard_stance (s : State) (c : Card) (n : Nat) (k : ExceptionKind) (i : Nat)
    (id : BitVec 24) :
    (s.refuseCard c n k i id).stance = s.stance := by simp [State.refuseCard]

@[simp] theorem State.roomStall_stance (s : State) (app : Application) : (s.roomStall app).stance = s.stance := by
  unfold State.roomStall; split
  · rfl
  · split <;> simp [State.stance_ite]

@[simp] theorem State.turnStall_stance (s : State) (app : Application) : (s.turnStall app).stance = s.stance := by
  unfold State.turnStall; split
  · rfl
  · split <;> simp

theorem State.unlessEnding_stance {s next : State} (h : next.stance = s.stance) :
    (s.unlessEnding next).stance = s.stance := by
  unfold State.unlessEnding; split
  · exact h
  · split <;> simp [h]

@[simp] theorem State.requestRecord_stance (s : State) (app : Application) :
    (s.requestRecord app).stance = s.stance := by
  simp [State.requestRecord]

@[simp] theorem State.openApplication_stance (s : State) (c : Card) (n i : Nat) :
    (s.openApplication c n i).stance = s.stance := by
  cases h : s.askMap i <;> simp [State.openApplication, h]

@[simp] theorem State.stageImage_stance (s : State) (app : Application) (t : Ticket) (ws : List Word) (im : Image)
    (clamped : Bool) (raw : Int) (v : BitVec 16) : (s.stageImage app t ws im clamped raw v).stance = s.stance := by
  simp [State.stageImage, State.stance_ite]

@[simp] theorem State.enterChange_stance (s : State) (app : Application) (t : Ticket) (ws : List Word) (im : Image)
    (clamped : Bool) (raw : Int) : (s.enterChange app t ws im clamped raw).stance = s.stance := by
  unfold State.enterChange; split <;> simp

@[simp] theorem State.recordArrived_stance (s : State) (app : Application) (ws : List Word) :
    (s.recordArrived app ws).stance = s.stance := by
  unfold State.recordArrived; split
  · dsimp only
    split
    · simp
    · split <;> simp
  · rfl

@[simp] theorem State.applicationFaulted_stance (s : State) (app : Application) (id : BitVec 24) :
    (s.applicationFaulted app id).stance = s.stance := by simp [State.applicationFaulted]

@[simp] theorem State.imageStaged_stance (s : State) (app : Application) (st : Staging) :
    (s.imageStaged app st).stance = s.stance := by simp [State.imageStaged]

@[simp] theorem State.imageFaulted_stance (s : State) (app : Application) (st : Staging) :
    (s.imageFaulted app st).stance = s.stance := by simp [State.imageFaulted]

@[simp] theorem State.includeCard_stance (s : State) (w : Walk) (t : Ticket) (c : Card) (n : Nat) :
    (s.includeCard w t c n).stance = s.stance := by
  unfold State.includeCard; split
  · simp
  · split <;> simp

@[simp] theorem State.markCard_stance (s : State) (c : Card) : (s.markCard c).stance = s.stance := by
  simp [State.markCard]

@[simp] theorem State.actByKind_stance (s : State) (w : Walk) (t : Ticket) (c : Card) (n : Nat) (k : CardKind) :
    (s.actByKind w t c n k).stance = s.stance := by
  cases k with
  | price | adjustPercent | adjustAmount | badge => exact State.unlessEnding_stance (by simp [State.stance_ite])
  | _ => simp [State.actByKind]

@[simp] theorem State.actOnCard_stance (s : State) (c : Card) (n : Nat) : (s.actOnCard c n).stance = s.stance := by
  unfold State.actOnCard; split
  · split <;> simp [State.stance_ite]
  · rfl

@[simp] theorem State.recordExit_stance (s : State) (c : Card) : (s.recordExit c).stance = s.stance := by
  simp [State.recordExit]

/-- The state that reading a card leaves; a NULL link leaves it as it is. -/
def CardFetch.stateOr (s : State) : CardFetch → State
  | .levelEnds => s
  | .ended s' => s'
  | .card s' _ _ => s'

theorem CardFetch.stateOr_ite (s : State) (c : Prop) [Decidable c] (f g : CardFetch) :
    (if c then f else g).stateOr s = if c then f.stateOr s else g.stateOr s := apply_ite (CardFetch.stateOr s) c f g

theorem State.fetchCard_stance (s : State) (l : Link) (counted : Bool) :
    ((s.fetchCard l counted).stateOr s).stance = s.stance := by
  unfold State.fetchCard; split
  · rfl
  · split
    · rfl
    · simp [CardFetch.stateOr]
    · split
      · simp [CardFetch.stateOr]
      · simp only [CardFetch.stateOr_ite]
        simp [CardFetch.stateOr, State.stance_ite]

@[simp] theorem State.stepCard_stance (s : State) : s.stepCard.stance = s.stance := by
  unfold State.stepCard; split
  · rfl
  next w _ =>
    have hfetch := s.fetchCard_stance w.link (w.next == .nextCard)
    split
    · rfl
    · split <;> simp_all [CardFetch.stateOr, State.stance_ite]

@[simp] theorem State.stepIteration_stance (s : State) : s.stepIteration.stance = s.stance := by
  unfold State.stepIteration; split
  · rfl
  next w _ =>
    split
    · rfl
    next f _ =>
      have hfetch := s.fetchCard_stance (w.iterationLink f) true
      split
      · split <;> simp_all [CardFetch.stateOr, State.stance_ite]
      · rfl

@[simp] theorem State.spanTested_stance (s : State) (c : Card) (n : Nat) (ws : List Word) :
    (s.spanTested c n ws).stance = s.stance := by
  unfold State.spanTested; split
  · rfl
  · split <;> simp [State.stance_ite]

@[simp] theorem State.spanTestFaulted_stance (s : State) (c : Card) (n : Nat) (id : BitVec 24) :
    (s.spanTestFaulted c n id).stance = s.stance := by
  unfold State.spanTestFaulted; split
  · rfl
  · split <;> simp [State.stance_ite]

@[simp] theorem State.retryRoom_stance (s : State) : s.retryRoom.stance = s.stance := by
  unfold State.retryRoom; split
  · rfl
  · split <;> simp

@[simp] theorem State.retryTurn_stance (s : State) : s.retryTurn.stance = s.stance := by
  unfold State.retryTurn; split
  · rfl
  · split <;> simp

@[simp] theorem State.requestWalkEnd_stance (s : State) (o : TicketOutcome) :
    (s.requestWalkEnd o).stance = s.stance := by
  unfold State.requestWalkEnd; split <;> simp [State.stance_ite]

@[simp] theorem State.requestParking_stance (s : State) : s.requestParking.stance = s.stance := by
  unfold State.requestParking; split
  · rfl
  next w _ => cases w.phase <;> simp [State.stance_ite]

@[simp] theorem State.haltWalk_stance (s : State) : s.haltWalk.stance = s.stance := by
  unfold State.haltWalk; split
  · rfl
  next w _ => cases w.phase <;> simp

/-! ## The Ticket Unit -/

@[simp] theorem State.askSweep_stance (s : State) : s.askSweep.stance = s.stance := by
  simp [State.askSweep, State.stance_ite]

@[simp] theorem State.endSweep_stance (s : State) : s.endSweep.stance = s.stance := by
  simp [State.endSweep, State.stance_ite]

@[simp] theorem State.afterTaking_stance (s : State) (t : Ticket) : (s.afterTaking t).stance = s.stance := by
  simp [State.afterTaking, State.stance_ite]

@[simp] theorem State.takeTicket_stance (s : State) (n : Nat) : (s.takeTicket n).stance = s.stance := by
  unfold State.takeTicket; split
  · simp
  · dsimp only
    split <;> simp [State.stance_ite]

@[simp] theorem State.sweepSlot_stance (s : State) (n : Nat) : (s.sweepSlot n).stance = s.stance := by
  unfold State.sweepSlot; split
  · simp
  · split <;> simp [State.sweepUnheld, State.sweepHeld, State.stance_ite]

@[simp] theorem State.sweepBoard_stance (s : State) : s.sweepBoard.stance = s.stance := by
  simp [State.sweepBoard, foldl_stance State.sweepSlot_stance]

@[simp] theorem State.expireTicket_stance (s : State) (n : Nat) (t : Ticket) :
    (s.expireTicket n t).stance = s.stance := by
  cases h : t.state <;> simp [State.expireTicket, h, State.stance_ite]

@[simp] theorem State.takeExpiry_stance (s : State) (n : Nat) : (s.takeExpiry n).stance = s.stance := by
  unfold State.takeExpiry; split <;> simp [State.stance_ite]

@[simp] theorem State.cancelTicket_stance (s : State) (n : Nat) : (s.cancelTicket n).stance = s.stance := by
  unfold State.cancelTicket; split
  · simp [State.cancelUnheld, State.stance_ite]
  next t _ => cases h : t.state <;> simp [State.cancelHeld, h, State.stance_ite]

/-! ## Store time and the air -/

@[simp] theorem State.setStoreTime_stance (s : State) (v : Word) : (s.setStoreTime v).stance = s.stance := by
  simp [State.setStoreTime]

@[simp] theorem State.tickSecond_stance (s : State) : s.tickSecond.stance = s.stance := by
  simp [State.tickSecond, State.stance_ite]

@[simp] theorem State.tick_stance (s : State) : s.tick.stance = s.stance := by
  rw [State.tick, State.tickFill, State.onCache_stance, State.onAir_stance rfl rfl, State.onUnit_stance,
    State.onTime_stance rfl]

@[simp] theorem State.senseBeacon_stance (s : State) (busy : Bool) : (s.senseBeacon busy).stance = s.stance := by
  unfold State.senseBeacon; split <;> simp [State.stance_ite]

@[simp] theorem State.askTurnReads_stance (s : State) (l : List AirTurn) : (s.askTurnReads l).stance = s.stance := by
  unfold State.askTurnReads
  exact foldl_stance (fun s _ => s.askAir_stance _) _ s

@[simp] theorem State.receiveTurns_stance (s : State) (slot : Nat) (l : List AirTurn) :
    (s.receiveTurns slot l).stance = s.stance := by
  simp [State.receiveTurns, State.stance_ite]

@[simp] theorem State.loseSlot_stance (s : State) (slot : Nat) : (s.loseSlot slot).stance = s.stance := by
  simp [State.loseSlot]

@[simp] theorem State.sendRollCall_stance (s : State) (slot : Nat) : (s.sendRollCall slot).stance = s.stance := by
  simp [State.sendRollCall, State.stance_ite]

@[simp] theorem State.senseSlot_stance (s : State) (busy : Bool) : (s.senseSlot busy).stance = s.stance := by
  unfold State.senseSlot; split <;> simp [State.stance_ite]

@[simp] theorem State.startTurn_stance (s : State) (n : Nat) : (s.startTurn n).stance = s.stance := by
  unfold State.startTurn; split
  · split
    · rfl
    · split
      · rfl
      · split <;> simp [State.sendTurn, State.stance_ite]
  all_goals rfl

@[simp] theorem State.openWindow_stance (s : State) : s.openWindow.stance = s.stance := by
  unfold State.openWindow; split <;> simp

@[simp] theorem State.receiveFrame_stance (s : State) (frame : List Byte) :
    (s.receiveFrame frame).stance = s.stance := by
  unfold State.receiveFrame; split
  · rfl
  · dsimp only
    split <;> simp

@[simp] theorem State.closeWindow_stance (s : State) : s.closeWindow.stance = s.stance := by
  unfold State.closeWindow; split <;> simp

/-! ## Host accesses and register writes -/

@[simp] theorem State.ramRead_stance (s : State) (off : Nat) : (s.ramRead off).stance = s.stance := by
  simp [State.ramRead]

@[simp] theorem State.snoopWordRead_stance (s : State) (off : Nat) : (s.snoopWordRead off).stance = s.stance := by
  unfold State.snoopWordRead; split <;> simp

@[simp] theorem State.snoopWordWrite_stance (s : State) (off : Nat) (w : Word) :
    (s.snoopWordWrite off w).stance = s.stance := by
  unfold State.snoopWordWrite; split <;> simp

@[simp] theorem State.answerRead_stance (s : State) (a : BitVec 24) : (s.answerRead a).stance = s.stance := by
  unfold State.answerRead; split <;> simp [State.stance_ite]

@[simp] theorem State.answerWrite_stance (s : State) (a : BitVec 24) (w : Word) :
    (s.answerWrite a w).stance = s.stance := by
  unfold State.answerWrite; split <;> simp [State.stance_ite]

@[simp] theorem State.answerAccess_stance (s : State) (a : HostAccess) : (s.answerAccess a).stance = s.stance := by
  cases a <;> simp [State.answerAccess]

@[simp] theorem State.access_stance (s : State) (a : HostAccess) : (s.access a).stance = s.stance := by
  simp [State.access, State.stance_ite]

@[simp] theorem State.drainHeld_stance (s : State) : s.drainHeld.stance = s.stance := by
  simp [State.drainHeld, foldl_stance State.answerAccess_stance]

@[simp] theorem State.nudged_stance (s : State) : s.nudged.stance = s.stance := by
  simp [State.nudged, State.stance_ite]

@[simp] theorem State.clearAttention_stance (s : State) (v : Word) : (s.clearAttention v).stance = s.stance := by
  simp [State.clearAttention]

@[simp] theorem State.setEnables_stance (s : State) (v : Word) : (s.setEnables v).stance = s.stance := by
  simp [State.setEnables]

/-! ## The cache and its port -/

@[simp] theorem State.putRecordWords_stance (s : State) (i : Nat) (l : List (Nat × Word)) :
    (s.putRecordWords i l).stance = s.stance := by
  unfold State.putRecordWords
  exact foldl_stance (fun s _ => s.putWord_stance _ _) l s

@[simp] theorem State.serveOnLine_stance (s : State) (key : Nat) (l : Line) (op : CacheOp) :
    (s.serveOnLine key l op).stance = s.stance := by simp [State.serveOnLine, State.stance_ite]

@[simp] theorem State.pushRecord_stance (s : State) (l : Line) : (s.pushRecord l).stance = s.stance := by
  simp [State.pushRecord]

@[simp] theorem State.sweepLine_stance (s : State) (key : Nat) (l : Line) : (s.sweepLine key l).stance = s.stance := by
  simp [State.sweepLine]

@[simp] theorem State.answerSpanTest_stance (s : State) (a : Answer) : (s.answerSpanTest a).stance = s.stance := by
  unfold State.answerSpanTest; split
  · cases a <;> simp
  · rfl

@[simp] theorem State.answerRecord_stance (s : State) (a : Answer) (id : BitVec 24) :
    (s.answerRecord a id).stance = s.stance := by
  unfold State.answerRecord; split
  · cases a <;> exact State.unlessEnding_stance (by simp)
  · rfl

@[simp] theorem State.answerStage_stance (s : State) (a : Answer) : (s.answerStage a).stance = s.stance := by
  unfold State.answerStage; split
  · cases a <;> simp
  · rfl

@[simp] theorem State.deliver_stance (s : State) (r : Request) (a : Answer) (id : BitVec 24) :
    (s.deliver r a id).stance = s.stance := by
  unfold State.deliver; split <;> cases a <;> simp

@[simp] theorem State.finishPush_stance (s : State) : s.finishPush.stance = s.stance := by
  simp [State.finishPush, State.stance_ite]

@[simp] theorem State.finishDrop_stance (s : State) : s.finishDrop.stance = s.stance := by
  simp [State.finishDrop, State.stance_ite]

/-- The Loader goes on from its push to the header, and is idle in neither. -/
@[simp] theorem State.finishLoaderPush_stance (s : State) : s.finishLoaderPush.stance = s.stance := by
  unfold State.finishLoaderPush; split
  case isTrue h => simp [State.stance, h.1]
  case isFalse => rfl

@[simp] theorem State.finishCacheCommands_stance (s : State) : s.finishCacheCommands.stance = s.stance := by
  simp [State.finishCacheCommands]

@[simp] theorem State.grantHit_stance (s : State) (who : Requester) (r : Request) (key : Nat) (l : Line) :
    (s.grantHit who r key l).stance = s.stance := by simp [State.grantHit]

@[simp] theorem State.grantThrough_stance (s : State) (who : Requester) (r : Request) :
    (s.grantThrough who r).stance = s.stance := by simp [State.grantThrough]

@[simp] theorem State.grantMiss_stance (s : State) (who : Requester) (r : Request) :
    (s.grantMiss who r).stance = s.stance := by simp [State.grantMiss, State.stance_ite]

@[simp] theorem State.grantRequest_stance (s : State) (who : Requester) (r : Request) :
    (s.grantRequest who r).stance = s.stance := by
  unfold State.grantRequest; split
  · simp
  · split <;> simp [State.stance_ite]

@[simp] theorem State.grantPort_stance (s : State) : s.grantPort.stance = s.stance := by
  unfold State.grantPort; split
  · rfl
  · split
    · simp
    · split <;> simp

@[simp] theorem State.endFill_stance (s : State) : s.endFill.stance = s.stance := by simp [State.endFill]

@[simp] theorem State.pushBuffered_stance (s : State) : s.pushBuffered.stance = s.stance := by
  unfold State.pushBuffered; split <;> simp

@[simp] theorem State.completeFill_stance (s : State) (f : Fill) : (s.completeFill f).stance = s.stance := by
  cases h : f.request <;> simp [State.completeFill, h]

@[simp] theorem State.installFill_stance (s : State) : s.installFill.stance = s.stance := by
  unfold State.installFill; split <;> simp [State.stance_ite]

@[simp] theorem State.abandonComplete_stance (s : State) (f : Fill) : (s.abandonComplete f).stance = s.stance := by
  cases hr : f.request <;> cases hb : s.cache.pushBuffer <;> simp [State.abandonComplete, hr, hb]

@[simp] theorem State.abandonFill_stance (s : State) : s.abandonFill.stance = s.stance := by
  unfold State.abandonFill; split <;> simp [State.stance_ite]

/-! ## The board sweep of a load -/

@[simp] theorem State.interruptTicket_stance (s : State) (a : Nat) : (s.interruptTicket a).stance = s.stance := by
  simp only [State.interruptTicket, State.latch_stance, State.putWord_stance]
  rw [foldl_stance fun s p => State.putWord_stance s _ _, State.latchIf_stance]

@[simp] theorem State.loadSweepSlot_stance (base : Nat) (s : State) (n : Nat) :
    (State.loadSweepSlot base s n).stance = s.stance := by simp [State.loadSweepSlot, State.stance_ite]

@[simp] theorem State.loadSweep_stance (s : State) (base : Nat) : (s.loadSweep base).stance = s.stance := by
  unfold State.loadSweep
  exact foldl_stance (State.loadSweepSlot_stance base) _ s

end Sys2Proof.Machine
end

section
/-! Every step keeps the schedule to the run state: the moves of the stance that the commands make, and that each move
keeps the invariant (R24, R127, R143, R178, R183). -/

namespace Sys2Proof.Machine

/-! ## The invariant of a stance -/

/-- The schedule, the radio, the Loader and the restart mark stand as the run state has them. -/
structure Stance.Follows (a : Stance) : Prop where
  schedule : a.stopped = true ↔ a.runState ≠ .running
  radio : a.radio = .active → a.runState = .running
  loader : a.loaderIdle = true ↔ a.runState ≠ .loading
  mark : a.restartMark = true → a.radio = .fault

/-- A HALTED or RUNNING part holds a load. -/
def Stance.Loaded (a : Stance) : Prop := a.runState = .halted ∨ a.runState = .running → a.load.isSome = true

@[simp] theorem State.stance_runState (s : State) : s.stance.runState = s.host.runState := rfl

theorem State.scheduleFollows_iff (s : State) : s.scheduleFollows = true ↔ s.stance.Follows := by
  constructor
  case mp =>
    intro h
    simp only [State.scheduleFollows, Bool.and_eq_true, Bool.or_eq_true, beq_iff_eq] at h
    obtain ⟨⟨⟨hschedule, hradio⟩, hloader⟩, hmark⟩ := h
    exact ⟨by simp [State.stance, hschedule], by simpa [State.stance, imp_iff_not_or] using hradio,
      by simp [State.stance, hloader], by simpa [State.stance, imp_iff_not_or] using hmark⟩
  case mpr =>
    rintro ⟨hschedule, hradio, hloader, hmark⟩
    simp only [State.stance, beq_iff_eq] at hschedule hradio hloader hmark
    simp only [State.scheduleFollows, Bool.and_eq_true, Bool.or_eq_true, beq_iff_eq]
    refine ⟨⟨⟨?_, ?_⟩, ?_⟩, ?_⟩
    · rw [Bool.eq_iff_iff]; simpa using hschedule
    · simpa [imp_iff_not_or] using hradio
    · rw [Bool.eq_iff_iff]; simpa using hloader
    · simpa [imp_iff_not_or] using hmark

theorem State.loadHeld_iff (s : State) : s.loadHeld = true ↔ s.stance.Loaded := by
  simp [State.loadHeld, Stance.Loaded, State.stance, imp_iff_not_or]

/-! ## The moves -/

/-- RUNNING, with an OFF radio ACTIVE (R24, R128). -/
def Stance.run (a : Stance) : Stance :=
  { a with runState := .running, radio := if a.radio = .off then .active else a.radio }

/-- A cycle start: the schedule runs, and a marked FAULT returns to ACTIVE (R22, R143). -/
def Stance.startCycle (a : Stance) : Stance :=
  { a with
    stopped := false
    radio := if a.radio = .fault ∧ a.restartMark then .active else a.radio
    restartMark := if a.radio = .fault ∧ a.restartMark then false else a.restartMark }

/-- HALT completes: HALTED, the schedule stopped, an ACTIVE radio OFF (R24, R128). -/
def Stance.halt (a : Stance) : Stance :=
  { a with runState := .halted, stopped := true, radio := if a.radio = .active then .off else a.radio }

/-- RELOAD: LOADING, with Timebase and radio cleared and the Loader at work (R180). -/
def Stance.reload (a : Stance) : Stance :=
  { runState := .loading, stopped := true, radio := .off, restartMark := false, loaderIdle := false, load := a.load }

/-- The load ends in a run state, and holds the values given (R183). -/
def Stance.endLoad (a : Stance) (run : RunState) (l : Option Load) : Stance :=
  { a with runState := run, loaderIdle := true, load := l }

/-- How one step moves the stance. -/
inductive Stance.Moves (a : Stance) : Stance → Prop
  | stays : a.Moves a
  | resets : a.Moves State.reset.stance
  | runs : a.runState = .halted → a.Moves a.run.startCycle
  | startsCycle : a.runState = .running → a.Moves a.startCycle
  | halts : a.runState = .running ∨ a.stopped = false → a.Moves a.halt
  | reloads : a.Moves a.reload
  | failsLoad : a.runState = .loading → a.Moves (a.endLoad .loadFault a.load)
  | completesLoad (l : Load) : a.runState = .loading → a.Moves (a.endLoad .halted (some l))
  | trips : a.Moves { a with radio := .fault }
  | marksRestart : a.radio = .fault → a.Moves { a with restartMark := true }

theorem Stance.Moves.of_eq {a b : Stance} (h : b = a) : a.Moves b := h ▸ .stays

theorem Stance.Follows.running {a : Stance} (h : a.Follows) (hrun : a.stopped = false) : a.runState = .running := by
  by_contra hne
  simp [h.schedule.mpr hne] at hrun

theorem Stance.Follows.idle {a : Stance} (h : a.Follows) (hrun : a.runState ≠ .loading) : a.loaderIdle = true :=
  h.loader.mpr hrun

theorem Stance.startCycle_follows {a : Stance} (hrun : a.runState = .running) (hidle : a.loaderIdle = true)
    (hmark : a.restartMark = true → a.radio = .fault) : a.startCycle.Follows where
  schedule := by simp [Stance.startCycle, hrun]
  radio _ := hrun
  loader := by simp [Stance.startCycle, hrun, hidle]
  mark := by cases h : a.restartMark <;> simp [Stance.startCycle, h, hmark]

theorem Stance.Follows.halt {a : Stance} (h : a.Follows) (hrun : a.runState = .running) : a.halt.Follows where
  schedule := by simp [Stance.halt]
  radio := by by_cases hr : a.radio = .active <;> simp [Stance.halt, hr]
  loader := by simp [Stance.halt, h.idle, hrun]
  mark hm := by simp [Stance.halt, h.mark hm]

/-- No radio is ACTIVE and no schedule runs while the part is LOADING, so the load may end in any state but RUNNING. -/
theorem Stance.Follows.endLoad {a : Stance} (h : a.Follows) (hrun : a.runState = .loading) {run : RunState}
    (hend : run ≠ .running ∧ run ≠ .loading) (l : Option Load) : (a.endLoad run l).Follows where
  schedule := by simp [Stance.endLoad, hend, h.schedule, hrun]
  radio hr := absurd (h.radio hr) (by simp [hrun])
  loader := by simp [Stance.endLoad, hend]
  mark := h.mark

/-- Every move keeps the invariant. -/
theorem Stance.Moves.follows {a b : Stance} (hm : a.Moves b) (h : a.Follows) : b.Follows := by
  cases hm with
  | stays => exact h
  | resets => constructor <;> simp [State.stance, State.reset, HostLink.reset, Timebase.reset, AirLink.reset]
  | runs hr => exact Stance.startCycle_follows rfl (h.idle (by simp [hr])) fun hm => by simp [Stance.run, h.mark hm]
  | startsCycle hr => exact Stance.startCycle_follows hr (h.idle (by simp [hr])) h.mark
  | halts hr => exact h.halt (hr.elim id h.running)
  | reloads => constructor <;> simp [Stance.reload]
  | failsLoad hr => exact h.endLoad hr (by simp) _
  | completesLoad l hr => exact h.endLoad hr (by simp) _
  | trips => exact ⟨h.schedule, by simp, h.loader, fun _ => rfl⟩
  | marksRestart hr => exact ⟨h.schedule, h.radio, h.loader, fun _ => hr⟩

/-- Every move keeps a HALTED or RUNNING part loaded. -/
theorem Stance.Moves.loaded {a b : Stance} (hm : a.Moves b) (h : a.Follows) (hl : a.Loaded) : b.Loaded := by
  cases hm with
  | stays | trips | marksRestart => exact hl
  | resets | reloads | failsLoad => intro hr; cases hr <;> contradiction
  | runs hr => exact fun _ => hl (.inl hr)
  | startsCycle hr => exact fun _ => hl (.inr hr)
  | halts hr => exact fun _ => hl (.inr (hr.elim id h.running))
  | completesLoad l => exact fun _ => rfl

/-! ## The acts that move the stance -/

theorem State.startCycle_stance (s : State) : s.startCycle.stance = s.stance.startCycle := by
  by_cases h : s.air.radio = .fault ∧ s.air.restartMark <;>
    simp [State.startCycle, State.stance, Stance.startCycle, Timebase.atCycleStart, AirLink.atCycleStart, h]

theorem State.completeHalt_stance (s : State) : s.completeHalt.stance = s.stance.halt := rfl

theorem State.startLoad_stance (s : State) : s.startLoad.stance = s.stance.reload := by
  simp only [State.startLoad, State.finishLoaderPush_stance]
  simp [State.stance, Stance.reload, Timebase.atReload, AirLink.reset]

theorem State.takeRun_stance (s : State) : s.takeRun.stance = s.stance.run.startCycle := by
  rw [State.takeRun, State.arbitrate_stance, State.startSweep_stance, State.startCycle_stance]
  by_cases h : s.air.radio = .off <;> simp [State.stance, Stance.run, h]

/-- The next period starts, or HALT completes in its place; `u` is what the end of the period before has left of `s`. -/
theorem State.nextPeriod_moves {s u : State} {start : State → State} (hu : u.stance = s.stance)
    (hrun : s.stance.stopped = false) (hstart : s.stance.Moves (start u).stance) :
    s.stance.Moves (u.nextPeriod start).stance := by
  unfold State.nextPeriod
  split
  · rw [u.completeHalt_stance, hu]
    exact .halts (.inr hrun)
  · exact hstart

theorem State.startSlot_stance {s : State} (k : Fin 64) (hrun : s.stance.stopped = false) :
    (s.startSlot k).stance = s.stance := by
  simp only [State.startSlot, State.receiveTurns_stance, State.enterTurns_stance, State.onAir_stance]
  simp_all [State.stance]

theorem State.endSlot_moves {s : State} (k : Fin 64) (hrun : s.stance.stopped = false) :
    s.stance.Moves (s.endSlot k).stance := by
  unfold State.endSlot
  refine State.nextPeriod_moves ?same hrun (.of_eq ?same)
  rw [State.returnEntries_stance, State.onAir_stance rfl rfl, State.onCache_stance, State.onTime_stance rfl]

theorem State.tripKeyMonitor_moves (s : State) : s.stance.Moves s.tripKeyMonitor.stance := .trips

theorem State.restartRadio_moves (s : State) : s.stance.Moves s.restartRadio.stance := by
  unfold State.restartRadio
  split
  case isTrue hfault => exact .marksRestart hfault
  case isFalse => exact .stays

theorem State.failLoad_moves {s : State} (code : LoadFaultCode) (h : s.stance.runState = .loading) :
    s.stance.Moves (s.failLoad code).stance := .failsLoad h

theorem State.completeLoad_moves {s : State} (l : Load) (h : s.stance.runState = .loading) :
    s.stance.Moves (s.completeLoad l).stance := .completesLoad l h

theorem State.checkLoad_moves {s : State} (h : s.stance.runState = .loading) : s.stance.Moves s.checkLoad.stance := by
  unfold State.checkLoad
  split
  · exact State.failLoad_moves .memory h
  · split
    · unfold State.loadSettings
      split
      · exact State.failLoad_moves .memory h
      · split
        · exact State.failLoad_moves .badChannel h
        · have hsweep := s.loadSweep_stance s.readHeader.boardBase
          rw [← hsweep] at h ⊢
          exact State.completeLoad_moves _ h
    · exact State.failLoad_moves _ h

/-! ## The commands of CONTROL -/

theorem State.takeHalt_moves {s : State} (h : s.stance.runState = .running) : s.stance.Moves s.takeHalt.stance := by
  have hstops :
      (((s.beginCommand .halt).onUnit fun u => { u with sweepTimer := none }).haltWalk).stance = s.stance := by simp
  simp only [State.takeHalt, State.stance_ite, State.completeHalt_stance, hstops]
  split
  · exact .halts (.inl h)
  · exact .stays

theorem State.take_moves {s : State} (c : Command) (argument : Nat)
    (htaken : c = .reload ∨ c.takenIn s.stance.runState = true) : s.stance.Moves (s.take c argument).stance := by
  cases c with
  | run => exact s.takeRun_stance ▸ .runs (by simpa [Command.takenIn] using htaken)
  | halt => exact State.takeHalt_moves (by simpa [Command.takenIn] using htaken)
  | reload => exact s.startLoad_stance ▸ .reloads
  | pushAll => exact .of_eq (by simp [State.take, State.takePushAll])
  | dropAll => exact .of_eq (by simp [State.take, State.takeDropAll])
  | cancel => exact .of_eq (s.cancelTicket_stance argument)
  | radioRestart => exact s.restartRadio_moves

theorem State.judgeCommand_moves (s : State) (c : Command) (argument : Nat) :
    s.stance.Moves (s.judgeCommand c argument).stance := by
  have hname := s.nameCommand_stance c.code
  simp only [State.judgeCommand, State.stance_ite, State.refuse_stance]
  split
  case isTrue hreload => exact hname ▸ State.take_moves c argument (.inl hreload)
  case isFalse =>
    split
    case isTrue => exact .stays
    case isFalse htaken =>
      have htake := hname ▸ State.take_moves (s := s.nameCommand c.code) c argument (.inr (by simpa using htaken))
      split
      · exact .stays
      · split
        · exact .stays
        · exact htake

theorem State.command_moves (s : State) (code : BitVec 4) (argument : Nat) :
    s.stance.Moves (s.command code argument).stance := by
  unfold State.command
  split
  · exact .of_eq (s.latch_stance _)
  · split
    · exact .of_eq (s.refuse_stance _ _)
    · exact s.judgeCommand_moves _ argument

theorem State.writeRegister_moves (s : State) (k : Nat) (v : Word) : s.stance.Moves (s.writeRegister k v).stance := by
  unfold State.writeRegister
  split
  · exact s.command_moves _ _
  · exact .of_eq s.nudged_stance
  · exact .of_eq (s.clearAttention_stance v)
  · exact .of_eq (s.setEnables_stance v)
  · exact .of_eq (s.setStoreTime_stance v)
  · exact .stays

theorem State.hostStore_moves (s : State) (a : BitVec 24) (v : Word) : s.stance.Moves (s.hostStore a v).stance := by
  unfold State.hostStore
  split
  · exact s.writeRegister_moves _ v
  all_goals exact .of_eq (s.access_stance _)

/-! ## Every step -/

theorem State.stopped_of_nextSlot {s : State} {k : Fin 64} (h : s.time.nextSlot = some k) :
    s.stance.stopped = false := by
  cases hp : s.time.position <;> simp_all [Timebase.nextSlot, State.stance]

theorem State.stopped_of_openSlot {s : State} {k : Fin 64} (h : s.time.openSlot = some k) :
    s.stance.stopped = false := by
  cases hp : s.time.position <;> simp_all [Timebase.openSlot, State.stance]

theorem exec_moves {i : Instr} {s t : State} (h : exec i s = .next t) : s.stance.Moves t.stance := by
  cases i <;> obtain rfl := Host.Outcome.next.inj h
  case powerOnReset => exact .resets
  case hostWrite a v => exact s.hostStore_moves a v
  case run | halt | reload | pushAll | dropAll | radioRestart => exact s.command_moves _ 0
  case cancel n => exact s.command_moves _ n.toNat
  case undefinedCommand code => exact s.command_moves code 0
  case otherRegisterWrite v => exact s.writeRegister_moves 0 v
  case cycleStart =>
    split
    case isTrue hdue =>
      simp only [State.cycleStartDue, Bool.and_eq_true, beq_iff_eq] at hdue
      obtain ⟨⟨hrun, hslot⟩, -⟩ := hdue
      exact State.nextPeriod_moves rfl (by simp [State.stance, hslot]) (s.startCycle_stance ▸ .startsCycle hrun)
    case isFalse => exact .stays
  case slotStart =>
    split
    · exact .stays
    next k hk =>
      have hrun := State.stopped_of_nextSlot hk
      exact State.nextPeriod_moves rfl hrun (.of_eq (State.startSlot_stance k hrun))
  case slotEnd =>
    split
    · exact .stays
    next k hk => exact State.endSlot_moves k (State.stopped_of_openSlot hk)
  case keyMonitorTrip => exact s.tripKeyMonitor_moves
  case loadCheck =>
    split
    case isTrue hdue =>
      simp only [State.loadCheckDue, Bool.and_eq_true, beq_iff_eq] at hdue
      exact State.checkLoad_moves hdue.1
    case isFalse => exact .stays
  all_goals exact .of_eq (by simp [State.stance_ite])

theorem step_moves {s t : State} (h : step s = .next t) : s.stance.Moves t.stance := by
  unfold step at h
  split at h
  · exact .of_eq (Host.Outcome.next.inj h ▸ s.tick_stance)
  next rest _ => exact s.withPending_stance rest ▸ exec_moves h

end Sys2Proof.Machine

namespace Sys2Proof.AirCycle
open Sys2Proof.Machine

/-- Settles O58: each step makes one of the moves of the stance, and every move keeps the invariant. -/
theorem stepsKeepTheScheduleToTheRunState : Obligations.StepsKeepTheScheduleToTheRunState := by
  intro s t hs hstep
  have hfollows := s.scheduleFollows_iff.mp hs
  have hmoves := step_moves hstep
  exact ⟨t.scheduleFollows_iff.mpr (hmoves.follows hfollows),
    fun hload => t.loadHeld_iff.mpr (hmoves.loaded hfollows (s.loadHeld_iff.mp hload))⟩

end Sys2Proof.AirCycle
end

section
/-! Store time, rush states, the cycle start and the idle step: what each changes, and what it leaves (R18 to R29, R113,
R130, R143, R153). -/

namespace Sys2Proof.Machine

/-! ## Store time and second ticks (R18, R20, R51) -/

theorem assocFind_map {α β : Type} (f : α → β) (k : Nat) (l : List (Nat × α)) :
    assocFind k (l.map fun p => (p.1, f p.2)) = (assocFind k l).map f := by
  induction l with
  | nil => rfl
  | cons p rest ih => by_cases h : p.1 = k <;> simp [assocFind, h, ih]

/-- The ticket after a second tick to a store time: due when the tick reaches its deadline, or when it was due
before. -/
def Ticket.atSecondTick (now : Word) (k : Ticket) : Ticket := { k with expiryDue := k.expiryDue || k.comesDue now }

theorem State.markExpiries_ticket (s : State) (now : Word) (n : Nat) :
    (s.markExpiries now).ticket n = (s.ticket n).map (Ticket.atSecondTick now) :=
  assocFind_map (Ticket.atSecondTick now) n s.unit.tickets

theorem Ticket.comesDue_eq (k : Ticket) (now : Word) :
    k.comesDue now = (!k.expired && k.deadline != 0#32 && decide (k.deadline.toNat ≤ now.toNat)) := by
  simp only [Ticket.comesDue, deadlineReached, Bool.and_assoc]

theorem State.setStoreTime_eq (s : State) (v : Word) :
    s.setStoreTime v =
      { s with
        time := { s.time with
          storeTime := v, timeSet := true, subSecond := 0, liveRush := (s.setStoreTime v).time.liveRush } } := rfl

theorem State.tickSecond_of_unset {s : State} (h : s.time.timeSet = false) : s.tickSecond = s := by
  simp [State.tickSecond, h]

theorem State.tickSecond_of_set {s : State} (h : s.time.timeSet = true) :
    s.tickSecond = (s.setStoreTime (s.time.storeTime + 1#32)).markExpiries (s.time.storeTime + 1#32) := by
  simp only [State.tickSecond, h, if_true]
  rw [State.setStoreTime, State.onTime, State.onTime, h]

/-! ## The live rush state (R27) -/

/-- After a write of STORE_TIME the live rush state is that of the window of the load at the new store time. -/
theorem State.setStoreTime_liveRush (s : State) (v : Word) :
    (s.setStoreTime v).time.liveRush = (s.load.map fun l => rushAt l.rushStart l.rushEnd v).getD .closed := by
  cases h : s.load <;> simp [State.setStoreTime, State.refreshRush, State.evaluateRush, h]

theorem windowValid_iff (first last : Nat) :
    windowValid first last = true ↔ first < 86400 ∧ last < 86400 ∧ first ≠ last := by
  simp only [windowValid, Bool.and_eq_true, decide_eq_true_eq, bne_iff_ne, and_assoc]
  rfl

theorem rushAt_of_invalid {first last : Nat} (h : 86400 ≤ first ∨ 86400 ≤ last ∨ first = last) (t : Word) :
    rushAt first last t = .closed := by
  have hinvalid : windowValid first last = false := by
    rw [← Bool.not_eq_true, windowValid_iff]
    omega
  simp [rushAt, hinvalid]

/-- The window within one day. -/
theorem rushAt_of_lt {first last : Nat} (h : first < last) (hlast : last < 86400) (t : Word) :
    rushAt first last t =
      if first ≤ t.toNat % 86400 ∧ t.toNat % 86400 < last then .openDay (t.toNat / 86400) else .closed := by
  have hvalid : windowValid first last = true := (windowValid_iff _ _).mpr (by omega)
  simp only [rushAt, hvalid, h, if_true, Bool.not_true, Bool.false_eq_true, if_false]
  rfl

/-- The window across midnight. -/
theorem rushAt_of_gt {first last : Nat} (h : last < first) (hfirst : first < 86400) (t : Word) :
    rushAt first last t =
      if first ≤ t.toNat % 86400 then .openDay (t.toNat / 86400)
      else if t.toNat % 86400 < last ∧ 1 ≤ t.toNat / 86400 then .openDay (t.toNat / 86400 - 1)
      else .closed := by
  have hvalid : windowValid first last = true := (windowValid_iff _ _).mpr (by omega)
  simp only [rushAt, hvalid, show ¬ first < last by omega, Bool.not_true, Bool.false_eq_true, if_false]
  rfl

/-- A write of STORE_TIME and a second tick both bring about the live rush state of the new store time. -/
theorem exec_liveRush {s t : State} {i : Instr}
    (hi : (∃ v, i = .storeTimeWrite v) ∨ (i = .secondTick ∧ s.time.timeSet = true)) (h : exec i s = .next t) :
    t.time.liveRush = (s.load.map fun l => rushAt l.rushStart l.rushEnd t.time.storeTime).getD .closed := by
  obtain ⟨v, rfl⟩ | ⟨rfl, hset⟩ := hi <;> obtain rfl := Host.Outcome.next.inj h
  · exact s.setStoreTime_liveRush v
  · rw [State.tickSecond_of_set hset]
    exact s.setStoreTime_liveRush _

/-! ## The cycle start (R22, R28, R29, R113, R143) -/

theorem rushRenewal_iff (previous now : RushState) :
    rushRenewal previous now = true ↔ now = .closed ∨ previous ≠ now := by
  cases now <;> simp [rushRenewal]

theorem State.completeHalt_eq (s : State) : s.completeHalt = s.haltEnds := rfl

theorem exec_cycleStart {s : State} (hrun : s.host.runState = .running) (hslot : s.time.position = .slot 63)
    (hover : s.time.periodOver = true) :
    exec .cycleStart s = .next (if s.host.active = some .halt then s.haltEnds else s.startCycle) := by
  simp [exec, execCycleStart, State.cycleStartDue, State.nextPeriod, State.halting, State.completeHalt_eq, hrun, hslot,
    hover]

theorem Entry.atCycleStart_state (e : Entry) (renewal : Bool) (now : Word) :
    (e.state = .heldStaged → e.activation.toNat ≤ now.toNat → (e.atCycleStart renewal now).state = .waitingProbe)
      ∧ (e.state ≠ .heldStaged ∨ now.toNat < e.activation.toNat → (e.atCycleStart renewal now).state = e.state) := by
  refine ⟨fun hheld hcome => by simp [Entry.atCycleStart, hheld, hcome], fun hstay => ?_⟩
  have hnot : ¬ (e.state = .heldStaged ∧ e.activation.toNat ≤ now.toNat) := by
    rintro ⟨hheld, hcome⟩
    exact hstay.elim (absurd hheld) (by omega)
  simp [Entry.atCycleStart, hnot]

theorem State.startCycle_entry {s : State} {j : Nat} {e : Entry} (h : s.roster.entries[j]? = some e) :
    s.startCycle.roster.entries[j]? =
      some (e.atCycleStart (rushRenewal s.time.cycleRush s.time.liveRush) s.time.storeTime) := by
  simp [State.startCycle, h]

theorem AirLink.atCycleStart_of_active {a : AirLink} (h : a.radio = .active) :
    a.atCycleStart = { a with stage := .beaconSense 0 } := by simp [AirLink.atCycleStart, h]

theorem AirLink.atCycleStart_of_marked {a : AirLink} (h : a.radio = .fault) (hmark : a.restartMark = true) :
    a.atCycleStart = { a with radio := .active, restartMark := false, lostSlots := 0, stage := .beaconSense 0 } := by
  simp [AirLink.atCycleStart, h, hmark]

theorem AirLink.atCycleStart_of_unmarked {a : AirLink} (h : a.radio = .fault) (hmark : a.restartMark = false) :
    a.atCycleStart = { a with stage := .idle } := by simp [AirLink.atCycleStart, h, hmark]

/-! ## The idle step (R18, R22, R35, R142, R153; log 10) -/

theorem step_of_empty {s : State} (h : s.pending = []) : step s = .next s.tick := by simp [step, h]

/-- The words that a fill reads next, at their places in its record. -/
theorem State.quarter_words (s : State) (f : Fill) (q : Nat) :
    s.ram.words (s.recordOffset f.index (4 * q)) 4 =
      [s.ram.word (s.recordOffset f.index (4 * q + 0)), s.ram.word (s.recordOffset f.index (4 * q + 1)),
        s.ram.word (s.recordOffset f.index (4 * q + 2)), s.ram.word (s.recordOffset f.index (4 * q + 3))] := by
  simp [Ram.words, State.recordOffset, List.range_succ, Nat.mul_add, Nat.add_assoc]

theorem State.quarterFaulty_eq_false_iff (s : State) (f : Fill) (q : Nat) :
    s.quarterFaulty f q = false ↔ ∀ m, m < 4 → s.ram.faulty (s.recordOffset f.index (4 * q + m)) = false := by
  simp [State.quarterFaulty, Ram.anyFaulty, State.recordOffset, Nat.mul_add, Nat.add_assoc]

theorem State.readQuarter_of_arrives {s : State} {f : Fill} (hmore : f.arrived.length < 4)
    (hgood : s.quarterFaulty f (f.quarterAt f.arrived.length) = false) :
    s.readQuarter f =
      { f with arrived :=
          f.arrived ++ [s.ram.words (s.recordOffset f.index (4 * f.quarterAt f.arrived.length)) 4] } := by
  simp [State.readQuarter, hgood, show ¬ 4 ≤ f.arrived.length by omega]

theorem State.readQuarter_of_not_arrives {s : State} {f : Fill}
    (h : ¬ (f.arrived.length < 4 ∧ s.quarterFaulty f (f.quarterAt f.arrived.length) = false)) :
    s.readQuarter f = f := by
  have hstop : 4 ≤ f.arrived.length ∨ s.quarterFaulty f (f.quarterAt f.arrived.length) = true := by
    by_contra hgo
    exact h (by simpa using hgo)
  simp [State.readQuarter, hstop]

theorem State.tick_time (s : State) : s.tick.time = s.time.tick := rfl

theorem State.tick_unit (s : State) : s.tick.unit = s.unit.tick s.sweepInterval := rfl

theorem State.tick_fill (s : State) : s.tick.cache.fill = s.cache.fill.map s.readQuarter := rfl

end Sys2Proof.Machine

namespace Sys2Proof.AirCycle
open Sys2Proof.Machine

/-- Settles O21: a second tick writes the next store time as the host would, and marks the deadlines it reaches. -/
theorem storeTimeEventsMoveTheClock : Obligations.StoreTimeEventsMoveTheClock := by
  intro s v
  refine ⟨⟨_, rfl, s.setStoreTime_eq v⟩, fun hunset => ?_, fun hset => ⟨_, rfl, ?_, fun n => ?_⟩⟩
  · exact congrArg _ (State.tickSecond_of_unset hunset)
  · rw [State.tickSecond_of_set hset]
    simp [State.setStoreTime, State.refreshRush, State.markExpiries, State.onTime, State.onUnit, hset]
  · rw [State.tickSecond_of_set hset, State.markExpiries_ticket]
    simp only [← Ticket.comesDue_eq]
    rfl

/-- Settles O22: each clause is a row of the window table at the new store time. -/
theorem liveRushFollowsTheWindowTable : Obligations.LiveRushFollowsTheWindowTable := by
  intro s t i hi hexec
  have hlive := exec_liveRush hi hexec
  refine ⟨fun hnone => by simpa [hnone] using hlive, fun l hload => ?_⟩
  rw [hload, Option.map_some, Option.getD_some] at hlive
  rw [hlive]
  exact ⟨fun h => rushAt_of_invalid h _, fun h hlast => rushAt_of_lt h hlast _, fun h hfirst => rushAt_of_gt h hfirst _⟩

/-- Settles O34: the cycle start of each block, or the end of HALT. -/
theorem cycleStartTakesNumberAndTime : Obligations.CycleStartTakesNumberAndTime := by
  intro s hrun hslot hover
  rw [exec_cycleStart hrun hslot hover]
  refine ⟨fun hhalt => by simp [hhalt], fun hhalt => ?_⟩
  rw [if_neg hhalt]
  refine ⟨s.startCycle, rfl, rfl, rfl, List.length_map .., fun j e hj => ?_, AirLink.atCycleStart_of_active,
    AirLink.atCycleStart_of_marked, AirLink.atCycleStart_of_unmarked, rfl⟩
  obtain ⟨hcomes, hstays⟩ := e.atCycleStart_state (rushRenewal s.time.cycleRush s.time.liveRush) s.time.storeTime
  refine ⟨_, State.startCycle_entry hj, fun hrenewal => ?_, fun hrenewal => ?_, hcomes, hstays, rfl⟩
  · simp [Entry.atCycleStart, (rushRenewal_iff _ _).mpr hrenewal]
  · simp [Entry.atCycleStart, mt (rushRenewal_iff _ _).mp hrenewal]

/-- Settles O2: the counts that one millisecond moves, and the quarter that a fill reads. -/
theorem idleStepPassesTime : Obligations.IdleStepPassesTime := by
  intro s hempty
  refine ⟨s.tick, step_of_empty hempty, hempty, rfl, rfl, rfl, rfl, rfl, rfl, rfl, rfl, rfl, rfl,
    fun hunset => ?unset, fun hset => ?set, fun hstopped => ?stopped, fun hbeacon => ?beacon, fun n hslot => ?slot,
    fun hoff => ?timerOff, fun ms l htimer hload => ?timer, rfl, rfl, fun hnone => ?noFill,
    fun f hfill => ⟨?arrives, ?waits⟩⟩
  case unset => simp [State.tick_time, Timebase.tick, hunset]
  case set => simp [State.tick_time, Timebase.tick, hset]
  case stopped => simp [State.tick_time, Timebase.tick, hstopped]
  case beacon => simp [State.tick_time, Timebase.tick, hbeacon, Config.beaconMs]
  case slot => simp [State.tick_time, Timebase.tick, hslot, Config.slotMs]
  case timerOff => simp [State.tick_unit, TicketUnit.tick, hoff]
  case timer => simp [State.tick_unit, TicketUnit.tick, State.sweepInterval, htimer, hload]
  case noFill => simp [State.tick_fill, hnone]
  case arrives =>
    rintro ⟨hmore, hgood⟩
    rw [State.tick_fill, hfill, Option.map_some,
      State.readQuarter_of_arrives hmore ((s.quarterFaulty_eq_false_iff f _).mpr hgood), State.quarter_words]
    rfl
  case waits =>
    intro hstop
    rw [State.tick_fill, hfill, Option.map_some, State.readQuarter_of_not_arrives]
    rwa [State.quarterFaulty_eq_false_iff]

end Sys2Proof.AirCycle
end

section
/-! The fields of a ticket record on the board: what several writes of one record leave, and the places of the fields that the
part writes (R32, R39, R46, R186). -/

namespace Sys2Proof.Machine

/-! ## Writes of several words of one record -/

/-- Write words at offsets of the record at an address. -/
@[irreducible] def Ram.setFields (m : Ram) (p : Nat) (l : List (Nat × Word)) : Ram :=
  l.foldl (fun m q => m.setWord (p + q.1) q.2) m

@[simp] theorem Ram.setFields_nil (m : Ram) (p : Nat) : m.setFields p [] = m := by simp [Ram.setFields]

theorem Ram.setFields_cons (m : Ram) (p : Nat) (q : Nat × Word) (l : List (Nat × Word)) :
    m.setFields p (q :: l) = (m.setWord (p + q.1) q.2).setFields p l := by simp [Ram.setFields]

theorem Ram.setFields_append (m : Ram) (p : Nat) (l r : List (Nat × Word)) :
    m.setFields p (l ++ r) = (m.setFields p l).setFields p r := by
  simp [Ram.setFields]

theorem Ram.wf_setFields {m : Ram} (h : m.wf = true) (p : Nat) (l : List (Nat × Word)) : (m.setFields p l).wf = true := by
  induction l generalizing m with
  | nil => simpa using h
  | cons q l ih =>
    rw [Ram.setFields_cons]
    exact ih (Ram.wf_setWord h _ _)

theorem Ram.word_setFields_of_ne {m : Ram} (h : m.wf = true) {p x : Nat} {l : List (Nat × Word)}
    (hx : ∀ q ∈ l, x / 4 ≠ (p + q.1) / 4) : (m.setFields p l).word x = m.word x := by
  induction l generalizing m with
  | nil => simp
  | cons q l ih =>
    rw [List.forall_mem_cons] at hx
    rw [Ram.setFields_cons, ih (Ram.wf_setWord h _ _) hx.2, Ram.word_setWord_ne h hx.1]

theorem Ram.byte_setFields_of_ne {m : Ram} (h : m.wf = true) {p x : Nat} {l : List (Nat × Word)}
    (hx : ∀ q ∈ l, x / 4 ≠ (p + q.1) / 4) : (m.setFields p l).byte x = m.byte x := by
  induction l generalizing m with
  | nil => simp
  | cons q l ih =>
    rw [List.forall_mem_cons] at hx
    rw [Ram.setFields_cons, ih (Ram.wf_setWord h _ _) hx.2, Ram.byte_setWord_ne h hx.1]

theorem Ram.faulty_setFields_of_ne (m : Ram) {p x : Nat} {l : List (Nat × Word)}
    (hx : ∀ q ∈ l, x / 4 ≠ (p + q.1) / 4) : (m.setFields p l).faulty x = m.faulty x := by
  induction l generalizing m with
  | nil => simp
  | cons q l ih =>
    rw [List.forall_mem_cons] at hx
    rw [Ram.setFields_cons, ih _ hx.2, Ram.faulty_setWord, if_neg hx.1]

/-- A field reads as it was written, when no other write of the list reaches its word. -/
theorem Ram.word_setFields_of_mem {m : Ram} (h : m.wf = true) {p off : Nat} {w : Word} {l : List (Nat × Word)}
    (hp : p % 4 = 0) (hl : (l.map fun q => q.1 / 4).Nodup) (hmem : (off, w) ∈ l) :
    (m.setFields p l).word (p + off) = w := by
  induction l generalizing m with
  | nil => simp at hmem
  | cons q l ih =>
    rw [List.map_cons, List.nodup_cons] at hl
    obtain ⟨hq, hl⟩ := hl
    rw [Ram.setFields_cons]
    rcases List.mem_cons.mp hmem with rfl | hmem
    · rw [Ram.word_setFields_of_ne (Ram.wf_setWord h _ _), Ram.word_setWord_self h]
      intro r hr heq
      exact hq (List.mem_map.mpr ⟨r, hr, by dsimp only; omega⟩)
    · exact ih (Ram.wf_setWord h _ _) hl hmem

theorem Ram.faulty_setFields_of_mem (m : Ram) {p off : Nat} {w : Word} {l : List (Nat × Word)} (hmem : (off, w) ∈ l) :
    (m.setFields p l).faulty (p + off) = false := by
  have hkeeps : ∀ (l : List (Nat × Word)) (m : Ram), m.faulty (p + off) = false →
      (m.setFields p l).faulty (p + off) = false := by
    intro l
    induction l with
    | nil => exact fun m hm => by simpa using hm
    | cons q l ih =>
      intro m hm
      rw [Ram.setFields_cons]
      exact ih _ (by rw [Ram.faulty_setWord]; split <;> simp [hm])
  induction l generalizing m with
  | nil => simp at hmem
  | cons q l ih =>
    rw [Ram.setFields_cons]
    rcases List.mem_cons.mp hmem with rfl | hmem
    · exact hkeeps l _ (by simp [Ram.faulty_setWord])
    · exact ih _ hmem

/-- A run of words is written word by word. -/
theorem Ram.setWords_eq_foldl (m : Ram) (a : Nat) (ws : List Word) :
    m.setWords a ws = (List.range ws.length).foldl (fun m j => m.setWord (a + 4 * j) (ws.getD j 0#32)) m := by
  induction ws generalizing m a with
  | nil => rfl
  | cons w ws ih =>
    rw [Ram.setWords, ih, List.length_cons, List.range_succ_eq_map, List.foldl_cons, List.foldl_map]
    simp [Nat.mul_add, Nat.add_assoc, Nat.add_comm (4 * _) 4]

/-! ## The fields of a ticket record -/

/-- The part writes fields of the ticket record in a board slot. -/
def State.putFields (s : State) (n : Nat) (l : List (Nat × Word)) : State :=
  s.onRam (·.setFields (s.ticketOffset n 0) l)

/-- The seventeen tallies at their places. -/
def tallyFields (f : Tally → Word) : List (Nat × Word) := Tally.all.map fun k => (k.offset, f k)

/-- Outcome, stop card and the word SETTLED. -/
def closingFields (o : TicketOutcome) (r : Reason) (stop : Option Nat) : List (Nat × Word) :=
  [(12, outcomeWord o r), (20, cardWord stop), (0, handoffSettled)]

theorem State.putFields_eq (s : State) (n : Nat) (l : List (Nat × Word)) :
    s.putFields n l = { s with ram := s.ram.setFields (s.ticketOffset n 0) l } := rfl

theorem State.putFields_append (s : State) (n : Nat) (l r : List (Nat × Word)) :
    (s.putFields n l).putFields n r = s.putFields n (l ++ r) := by
  simp only [State.putFields_eq, Ram.setFields_append]
  rfl

theorem State.putTicketWord_eq (s : State) (n off : Nat) (w : Word) :
    s.putTicketWord n off w = s.putFields n [(off, w)] := by
  rw [State.putFields_eq, Ram.setFields_cons, Ram.setFields_nil]
  rfl

theorem State.foldl_putTicketWord (s : State) (n : Nat) (f : Tally → Word) (ks : List Tally) :
    ks.foldl (fun s k => s.putTicketWord n k.offset (f k)) s = s.putFields n (ks.map fun k => (k.offset, f k)) := by
  induction ks generalizing s with
  | nil => rw [List.map_nil, State.putFields_eq, Ram.setFields_nil]; rfl
  | cons k ks ih =>
    rw [List.foldl_cons, ih, State.putTicketWord_eq, State.putFields_append, List.map_cons, List.singleton_append]

theorem State.putTallies_eq (s : State) (n : Nat) (t : Ticket) : s.putTallies n t = s.putFields n (tallyFields t.tally) :=
  s.foldl_putTicketWord n t.tally Tally.all

theorem State.zeroTallies_eq (s : State) (n : Nat) :
    s.zeroTallies n = s.putFields n (tallyFields (fun _ => 0#32) ++ [(8, 0#32), (16, 0#32)]) := by
  rw [State.zeroTallies, s.foldl_putTicketWord n (fun _ => 0#32)]
  simp only [State.putTicketWord_eq, State.putFields_append, List.append_assoc]
  rfl

theorem State.putSettlement_eq (s : State) (n : Nat) (o : TicketOutcome) (r : Reason) (stop : Option Nat) :
    s.putSettlement n o r stop = (s.putFields n (closingFields o r stop)).latch .settled := by
  simp only [State.putSettlement, State.putTicketWord_eq, State.putFields_append]
  rfl

@[simp] theorem State.putFields_ram (s : State) (n : Nat) (l : List (Nat × Word)) :
    (s.putFields n l).ram = s.ram.setFields (s.ticketOffset n 0) l := rfl

@[simp] theorem State.putFields_ticketOffset (s : State) (n m off : Nat) (l : List (Nat × Word)) :
    (s.putFields n l).ticketOffset m off = s.ticketOffset m off := rfl

theorem State.ticketOffset_eq (s : State) (n off : Nat) : s.ticketOffset n off = s.ticketOffset n 0 + off := rfl

theorem State.ticketOffset_mod {s : State} (h : s.boardBase % 4 = 0) (n : Nat) : s.ticketOffset n 0 % 4 = 0 := by
  simp only [State.ticketOffset]
  omega

theorem State.ticketWord_putFields_of_mem {s : State} (h : s.ram.wf = true) (hb : s.boardBase % 4 = 0) {n off : Nat}
    {w : Word} {l : List (Nat × Word)} (hl : (l.map fun q => q.1 / 4).Nodup) (hmem : (off, w) ∈ l) :
    (s.putFields n l).ticketWord n off = w :=
  Ram.word_setFields_of_mem h (State.ticketOffset_mod hb n) hl hmem

theorem State.ticketWord_putFields_of_ne {s : State} (h : s.ram.wf = true) (hb : s.boardBase % 4 = 0) {n off : Nat}
    {l : List (Nat × Word)} (hl : ∀ q ∈ l, off / 4 ≠ q.1 / 4) :
    (s.putFields n l).ticketWord n off = s.ticketWord n off := by
  refine Ram.word_setFields_of_ne h fun q hq => ?_
  have hoff := hl q hq
  have hp := State.ticketOffset_mod hb n
  rw [State.putFields_ticketOffset, State.ticketOffset_eq]
  omega

/-- Fields below offset 92 of a record lie within its first 92 bytes. -/
theorem State.byte_putFields {s : State} (h : s.ram.wf = true) (hb : s.boardBase % 4 = 0) {n x : Nat}
    {l : List (Nat × Word)} (hl : ∀ q ∈ l, q.1 < 92) (hx : x < s.ticketOffset n 0 ∨ s.ticketOffset n 92 ≤ x) :
    (s.putFields n l).ram.byte x = s.ram.byte x := by
  refine Ram.byte_setFields_of_ne h fun q hq => ?_
  have hoff := hl q hq
  have hp := State.ticketOffset_mod hb n
  rw [State.ticketOffset_eq s n 92] at hx
  omega

theorem mem_tallyFields_iff {f : Tally → Word} {q : Nat × Word} :
    q ∈ tallyFields f ↔ ∃ k : Tally, q = (24 + 4 * k.place, f k) := by
  simp only [tallyFields, List.mem_map]
  constructor
  · rintro ⟨k, -, rfl⟩
    exact ⟨k, rfl⟩
  · rintro ⟨k, rfl⟩
    exact ⟨k, by cases k <;> decide, rfl⟩

theorem Tally.place_lt (k : Tally) : k.place < 17 := by cases k <;> decide

theorem Tally.exists_place {j : Nat} (hj : j < 17) : ∃ k : Tally, k.place = j := by
  have hall : ∀ j < 17, ∃ k ∈ Tally.all, k.place = j := by decide
  obtain ⟨k, -, hk⟩ := hall j hj
  exact ⟨k, hk⟩

theorem count_mem_tallyFields (k : Ticket) {j : Nat} (hj : j < 17) : (24 + 4 * j, k.count j) ∈ tallyFields k.tally := by
  obtain ⟨t, rfl⟩ := Tally.exists_place hj
  exact mem_tallyFields_iff.mpr ⟨t, rfl⟩

end Sys2Proof.Machine
end

section
/-! Settlement, CANCEL as a command, and the exception list: what each writes on the board and leaves of the state (R48 to R50,
R52, R53, R174). -/

namespace Sys2Proof.Machine

/-! ## Settlement (R50, R53) -/

theorem TicketOutcome.code_eq (o : TicketOutcome) : o.code = o.number := by cases o <;> rfl

theorem Reason.code_eq (r : Reason) : r.code = r.number := by cases r <;> rfl

theorem outcomeWord_eq (o : TicketOutcome) (r : Reason) : outcomeWord o r = (0#16 ++ r.number ++ o.number : BitVec 32) := by
  rw [outcomeWord, o.code_eq, r.code_eq]

theorem cardWord_eq (stop : Option Nat) :
    cardWord stop = match stop with | none => 0xFFFFFFFF#32 | some c => BitVec.ofNat 32 c := by
  cases stop <;> rfl

theorem ContextState.handoff_eq (c : ContextState) : c.handoff = c.word := by cases c <;> rfl

theorem Ticket.liveCount_eq (k : Ticket) : k.liveCount = k.liveEntries := rfl

/-- What the settlement of a held ticket writes: tallies, counts, outcome, stop card, SETTLED. -/
def Ticket.settledFields (k : Ticket) (o : TicketOutcome) (r : Reason) (stop : Option Nat) : List (Nat × Word) :=
  tallyFields k.tally ++ (8, k.countsWord) :: closingFields o r (if o = .abridged then stop else none)

/-- What the settlement of a ticket not held writes: every tally, count and the progress mark 0. -/
def unheldFields (o : TicketOutcome) (r : Reason) : List (Nat × Word) :=
  tallyFields (fun _ => 0#32) ++ (8, 0#32) :: (16, 0#32) :: closingFields o r none

theorem Ticket.settledFields_nodup (k : Ticket) (o : TicketOutcome) (r : Reason) (stop : Option Nat) :
    ((k.settledFields o r stop).map fun q => q.1 / 4).Nodup := by
  have hplaces : (k.settledFields o r stop).map (fun q => q.1 / 4) =
      [6, 7, 8, 9, 10, 11, 12, 13, 14, 15, 16, 17, 18, 19, 20, 21, 22, 2, 3, 5, 0] := by
    simp [Ticket.settledFields, tallyFields, Tally.all, Tally.offset, Tally.place, closingFields]
  rw [hplaces]
  decide

theorem unheldFields_nodup (o : TicketOutcome) (r : Reason) : ((unheldFields o r).map fun q => q.1 / 4).Nodup := by
  have hplaces : (unheldFields o r).map (fun q => q.1 / 4) =
      [6, 7, 8, 9, 10, 11, 12, 13, 14, 15, 16, 17, 18, 19, 20, 21, 22, 2, 4, 3, 5, 0] := by
    simp [unheldFields, tallyFields, Tally.all, Tally.offset, Tally.place, closingFields]
  rw [hplaces]
  decide

theorem offset_of_mem_tallyFields {f : Tally → Word} {q : Nat × Word} (hq : q ∈ tallyFields f) : 24 ≤ q.1 ∧ q.1 < 92 := by
  obtain ⟨k, rfl⟩ := mem_tallyFields_iff.mp hq
  have hplace := k.place_lt
  dsimp only
  omega

theorem offset_of_mem_closingFields {o : TicketOutcome} {r : Reason} {stop : Option Nat} {q : Nat × Word}
    (hq : q ∈ closingFields o r stop) : q.1 = 12 ∨ q.1 = 20 ∨ q.1 = 0 := by
  simp only [closingFields, List.mem_cons, List.not_mem_nil, or_false] at hq
  rcases hq with rfl | rfl | rfl <;> simp

theorem Ticket.offset_of_mem_settledFields {k : Ticket} {o : TicketOutcome} {r : Reason} {stop : Option Nat}
    {q : Nat × Word} (hq : q ∈ k.settledFields o r stop) :
    24 ≤ q.1 ∧ q.1 < 92 ∨ q.1 = 8 ∨ q.1 = 12 ∨ q.1 = 20 ∨ q.1 = 0 := by
  rw [Ticket.settledFields, List.mem_append, List.mem_cons] at hq
  rcases hq with hq | rfl | hq
  · exact .inl (offset_of_mem_tallyFields hq)
  · exact .inr (.inl rfl)
  · exact .inr (.inr (offset_of_mem_closingFields hq))

theorem offset_of_mem_unheldFields {o : TicketOutcome} {r : Reason} {q : Nat × Word} (hq : q ∈ unheldFields o r) :
    24 ≤ q.1 ∧ q.1 < 92 ∨ q.1 = 8 ∨ q.1 = 16 ∨ q.1 = 12 ∨ q.1 = 20 ∨ q.1 = 0 := by
  rw [unheldFields, List.mem_append, List.mem_cons, List.mem_cons] at hq
  rcases hq with hq | rfl | rfl | hq
  · exact .inl (offset_of_mem_tallyFields hq)
  · exact .inr (.inl rfl)
  · exact .inr (.inr (.inl rfl))
  · exact .inr (.inr (.inr (offset_of_mem_closingFields hq)))

theorem State.settleUnheld_eq (s : State) (n : Nat) (o : TicketOutcome) (r : Reason) :
    s.settleUnheld n o r = (s.putFields n (unheldFields o r)).latch .settled := by
  rw [State.settleUnheld, State.zeroTallies_eq, State.putSettlement_eq, State.putFields_append, List.append_assoc]
  rfl

theorem State.settle_eq {s : State} {n : Nat} {k : Ticket} (hk : s.ticket n = some k) :
    s.settle n =
      ((s.putFields n (k.settledFields (k.outcome.getD .complete) k.reason k.stopCard)).latch .settled).dropTicket n := by
  simp only [State.settle, hk, State.putTallies_eq, State.putTicketWord_eq, State.putSettlement_eq,
    State.putFields_append, List.append_assoc]
  rfl

theorem zero_mem_tallyFields {j : Nat} (hj : j < 17) : (24 + 4 * j, 0#32) ∈ tallyFields fun _ => 0#32 := by
  obtain ⟨t, rfl⟩ := Tally.exists_place hj
  exact mem_tallyFields_iff.mpr ⟨t, rfl⟩

/-- The counts of a ticket record are 0, and nothing outside the fields that the part writes has changed. -/
def State.zeroed (s t : State) (n : Nat) : Prop :=
  t.ticketWord n 4 = s.ticketWord n 4 ∧ t.ticketWord n 8 = 0#32 ∧ t.ticketWord n 16 = 0#32
    ∧ (∀ k < 17, t.ticketWord n (24 + 4 * k) = 0#32)
    ∧ ∀ x, x < s.ticketOffset n 0 ∨ s.ticketOffset n 92 ≤ x → t.ram.byte x = s.ram.byte x

/-- The record of a ticket settled without having been held. -/
theorem State.putFields_unheld {s : State} (h : s.ram.wf = true) (hb : s.boardBase % 4 = 0) (n : Nat)
    (o : TicketOutcome) (r : Reason) :
    let t := s.putFields n (unheldFields o r)
    s.zeroed t n ∧ t.ticketWord n 0 = 5#32 ∧ t.ticketWord n 12 = (0#16 ++ r.number ++ o.number : BitVec 32)
      ∧ t.ticketWord n 20 = 0xFFFFFFFF#32 := by
  intro t
  have hput : ∀ {off : Nat} {w : Word}, (off, w) ∈ unheldFields o r → t.ticketWord n off = w := fun hmem =>
    State.ticketWord_putFields_of_mem h hb (unheldFields_nodup o r) hmem
  have hclosing : ∀ q ∈ closingFields o r none, q ∈ unheldFields o r := fun q hq =>
    List.mem_append_right _ (List.mem_cons_of_mem _ (List.mem_cons_of_mem _ hq))
  refine ⟨⟨?sequence, hput (List.mem_append_right _ List.mem_cons_self),
    hput (List.mem_append_right _ (List.mem_cons_of_mem _ List.mem_cons_self)),
    fun j hj => hput (List.mem_append_left _ (zero_mem_tallyFields hj)), fun x hx => ?frame⟩,
    hput (hclosing _ (by simp [closingFields, handoffSettled])), ?outcome,
    hput (hclosing _ (by simp [closingFields, cardWord, Config.absentWord]))⟩
  case sequence =>
    refine State.ticketWord_putFields_of_ne h hb fun q hq => ?_
    have := offset_of_mem_unheldFields hq
    omega
  case frame =>
    refine State.byte_putFields h hb (fun q hq => ?_) hx
    have := offset_of_mem_unheldFields hq
    omega
  case outcome =>
    rw [← outcomeWord_eq]
    exact hput (hclosing _ (by simp [closingFields]))

theorem State.ticketWord_of_ram {s t : State} (hload : t.load = s.load) (hram : t.ram = s.ram) (n off : Nat) :
    t.ticketWord n off = s.ticketWord n off := by
  simp [State.ticketWord, State.ticketOffset, State.boardBase, hload, hram]

/-- A state that has the settlement's fields on the board, over writes to the tallies or to the handoff word, and no context
in the slot, is one in which the ticket is settled. -/
theorem State.settles_of_fields {s t : State} {n : Nat} {k : Ticket} {o : TicketOutcome} {r : Reason} {stop : Option Nat}
    {first : List (Nat × Word)} (h : s.ram.wf = true) (hb : s.boardBase % 4 = 0) (hload : t.load = s.load)
    (hram : t.ram = (s.putFields n (first ++ k.settledFields o r stop)).ram)
    (hfirst : ∀ q ∈ first, q.1 = 0 ∨ 24 ≤ q.1 ∧ q.1 < 92) (hnone : t.ticket n = none)
    (hother : ∀ m, m ≠ n → t.ticket m = s.ticket m) : s.settles t n k o r stop := by
  have hwords : ∀ off, t.ticketWord n off =
      ((s.putFields n first).putFields n (k.settledFields o r stop)).ticketWord n off := fun off => by
    rw [State.putFields_append]
    exact State.ticketWord_of_ram (s := s.putFields n _) hload hram n off
  have hwf : (s.putFields n first).ram.wf = true := Ram.wf_setFields h _ _
  have hput : ∀ {off : Nat} {w : Word}, (off, w) ∈ k.settledFields o r stop → t.ticketWord n off = w := fun hmem => by
    rw [hwords]
    exact State.ticketWord_putFields_of_mem (s := s.putFields n first) hwf hb (k.settledFields_nodup o r stop) hmem
  have hkeep : ∀ off, off = 4 ∨ off = 16 → t.ticketWord n off = s.ticketWord n off := fun off hoff => by
    rw [hwords, State.ticketWord_putFields_of_ne (s := s.putFields n first) hwf hb,
      State.ticketWord_putFields_of_ne h hb]
    · intro q hq
      have := hfirst q hq
      omega
    · intro q hq
      have := Ticket.offset_of_mem_settledFields hq
      omega
  have hclosing : ∀ q ∈ closingFields o r (if o = .abridged then stop else none), q ∈ k.settledFields o r stop :=
    fun q hq => List.mem_append_right _ (List.mem_cons_of_mem _ hq)
  refine ⟨hnone, hother, fun j hj => hput (List.mem_append_left _ (count_mem_tallyFields k hj)),
    hput (List.mem_append_right _ List.mem_cons_self), ?outcome, ?stopCard,
    hput (hclosing _ (by simp [closingFields, handoffSettled])), hkeep 4 (.inl rfl), hkeep 16 (.inr rfl), fun x hx => ?frame⟩
  case outcome =>
    rw [← outcomeWord_eq]
    exact hput (hclosing _ (by simp [closingFields]))
  case stopCard =>
    rw [hput (hclosing (20, _) (List.mem_cons_of_mem _ List.mem_cons_self)), cardWord_eq]
    by_cases ho : o = .abridged <;> cases stop <;> simp [ho]
  case frame =>
    rw [hram]
    refine State.byte_putFields h hb (fun q hq => ?_) hx
    rcases List.mem_append.mp hq with hq | hq
    · have := hfirst q hq
      omega
    · have := Ticket.offset_of_mem_settledFields hq
      omega

theorem State.dropTicket_ticket_self {s : State} (h : rising s.unit.tickets = true) (n : Nat) :
    (s.dropTicket n).ticket n = none := assocFind_drop_self h

theorem State.dropTicket_ticket_ne (s : State) {n m : Nat} (h : m ≠ n) : (s.dropTicket n).ticket m = s.ticket m :=
  assocFind_drop_ne h _

theorem State.setTicket_ticket_self (s : State) (n : Nat) (k : Ticket) : (s.setTicket n k).ticket n = some k :=
  assocFind_put_self _ _ _

theorem State.setTicket_ticket_ne (s : State) {n m : Nat} (h : m ≠ n) (k : Ticket) :
    (s.setTicket n k).ticket m = s.ticket m := assocFind_put_ne h _ _

/-- A held ticket settles with its provisional outcome, and nothing but its record, its context and the latch changes. -/
theorem State.settle_settles {s : State} {n : Nat} {k : Ticket} (hk : s.ticket n = some k)
    (hrising : rising s.unit.tickets = true) (h : s.ram.wf = true) (hb : s.boardBase % 4 = 0) :
    s.settles (s.settle n) n k (k.outcome.getD .complete) k.reason k.stopCard := by
  rw [State.settle_eq hk]
  exact State.settles_of_fields (first := []) h hb rfl (by rw [List.nil_append]; rfl) (by simp)
    (State.dropTicket_ticket_self hrising n)
    fun m hm => State.dropTicket_ticket_ne _ hm

/-- The settlement of a ticket whose context takes another state, outcome or mark first. -/
theorem State.setTicket_settle_settles {s : State} {n : Nat} {k j : Ticket} {o : TicketOutcome} {r : Reason}
    {stop : Option Nat} (hj : ∀ o r stop, j.settledFields o r stop = k.settledFields o r stop)
    (ho : j.outcome = some o) (hr : j.reason = r) (hstop : o = .abridged → j.stopCard = stop)
    (hrising : rising s.unit.tickets = true) (h : s.ram.wf = true) (hb : s.boardBase % 4 = 0) :
    s.settles ((s.setTicket n j).settle n) n k o r stop := by
  have hcard : k.settledFields o r j.stopCard = k.settledFields o r stop := by
    by_cases hend : o = .abridged
    · rw [hstop hend]
    · simp [Ticket.settledFields, hend]
  rw [State.settle_eq (s.setTicket_ticket_self n j), ho, hr, Option.getD_some, hj, hcard]
  refine State.settles_of_fields (first := []) h hb rfl (by rw [List.nil_append]; rfl) (by simp)
    (State.dropTicket_ticket_self (s := _) (rising_put n j hrising) n) fun m hm => ?_
  exact (State.dropTicket_ticket_ne _ hm).trans (s.setTicket_ticket_ne hm j)

/-- A settlement changes its record, its context and the latch. -/
theorem State.settle_frame {s : State} {n : Nat} {k : Ticket} (hk : s.ticket n = some k) :
    s.settle n =
      { s with
        ram := (s.settle n).ram
        unit := { s.unit with tickets := (s.settle n).unit.tickets }
        host := { s.host with attention := s.host.attention ||| 0x004#9 } } := by
  rw [State.settle_eq hk]
  rfl

/-! ## CANCEL as a command (R52, R53, R174, R175) -/

theorem exec_cancel {s : State} {n : Nat} (hn : n < 32) (hactive : s.host.active = none)
    (hrun : s.host.runState = .halted ∨ s.host.runState = .running) :
    exec (.cancel (BitVec.ofNat 8 n)) s = .next ((s.nameCommand 6#4).cancelTicket n) := by
  have htaken : Command.cancel.takenIn s.host.runState = true := by rcases hrun with h | h <;> simp [Command.takenIn, h]
  have hnum : (BitVec.ofNat 8 n).toNat = n := by simp; omega
  have hcode : Command.ofCode Command.cancel.code = some .cancel := rfl
  simp only [exec, execCancel, State.command, State.commandBlocks, hactive, hnum, hcode, State.judgeCommand, htaken]
  simp [show ¬ 31 < n by omega, State.take, Command.code]

theorem State.cancelTicket_of_held {s : State} {n : Nat} {k : Ticket} (hk : s.ticket n = some k) :
    s.cancelTicket n = s.cancelHeld n k := by simp [State.cancelTicket, hk]

theorem State.cancelTicket_of_posted {s : State} {n : Nat} (hnone : s.ticket n = none)
    (hgood : s.ticketFaulty n 0 = false) (hposted : s.ticketWord n 0 = 1#32) :
    s.cancelTicket n = (s.settleUnheld n .cancelled .none).giveResult .done := by
  simp [State.cancelTicket, hnone, State.cancelUnheld, hgood, hposted, handoffPosted]

theorem State.cancelTicket_of_other {s : State} {n : Nat} (hnone : s.ticket n = none)
    (hgood : s.ticketFaulty n 0 = false) (hother : s.ticketWord n 0 ≠ 1#32) :
    s.cancelTicket n = s.giveResult .notHeld := by
  simp [State.cancelTicket, hnone, State.cancelUnheld, hgood, hother, handoffPosted]

theorem State.cancelTicket_of_faulty {s : State} {n : Nat} (hnone : s.ticket n = none)
    (hfaulty : s.ticketFaulty n 0 = true) : s.cancelTicket n = (s.latch .memoryFault).giveResult .notHeld := by
  simp [State.cancelTicket, hnone, State.cancelUnheld, hfaulty]

theorem exec_ticketExpiry {s : State} {n : Nat} {k : Ticket} (hn : n < 32) (hk : s.ticket n = some k)
    (hdue : k.expiryDue = true) (hnot : k.expired = false) :
    exec (.ticketExpiry (BitVec.ofNat 5 n)) s = .next (s.expireTicket n k) := by
  have hnum : (BitVec.ofNat 5 n).toNat = n := by simp; omega
  simp [exec, execTicketExpiry, State.takeExpiry, hnum, hk, hdue, hnot]

/-! ## Exception entries (R48, R49) -/

theorem ExceptionKind.code_eq (k : ExceptionKind) : k.code = k.number := by cases k <;> rfl

/-- The four words of an exception entry at their places in the list. -/
def ExceptionEntry.fields (e : ExceptionEntry) : List (Nat × Word) :=
  [(0, (0#8 ++ e.kind.number ++ BitVec.ofNat 16 e.index : BitVec 32)), (4, (0#8 ++ e.ident : BitVec 32)),
   (8, cardWord e.card), (12, e.detail)]

theorem ExceptionEntry.setWords_words (e : ExceptionEntry) (m : Ram) (a : Nat) :
    m.setWords a e.words = m.setFields a e.fields := by
  simp only [ExceptionEntry.words, ExceptionEntry.fields, Ram.setWords, Ram.setFields_cons, Ram.setFields_nil,
    ExceptionKind.code_eq, Nat.add_assoc]
  rfl

/-- The ticket with one more entry written (R48). -/
def Ticket.afterEntry (k : Ticket) : Ticket := { k with entriesWritten := k.entriesWritten + 1#16 }

/-- The ticket with an entry counted in the overflow count (R49). -/
def Ticket.afterOverflow (k : Ticket) : Ticket :=
  { k with overflow := if k.overflow = 0xFFFF#16 then 0xFFFF#16 else k.overflow + 1#16 }

theorem State.writeException_of_room {s : State} {n : Nat} {k : Ticket} (hk : s.ticket n = some k) (e : ExceptionEntry)
    (hroom : k.entriesWritten.toNat < k.listCapacity) :
    s.writeException n e =
      ((s.onRam (·.setFields (k.listAddress + 16 * k.entriesWritten.toNat) e.fields)).setTicket n k.afterEntry).putFields n
        [(8, k.afterEntry.countsWord)] := by
  simp only [State.writeException, hk, hroom, if_true, e.setWords_words, State.putTicketWord_eq]
  rfl

theorem State.writeException_of_full {s : State} {n : Nat} {k : Ticket} (hk : s.ticket n = some k) (e : ExceptionEntry)
    (hfull : k.listCapacity ≤ k.entriesWritten.toNat) :
    s.writeException n e = (s.setTicket n k.afterOverflow).putFields n [(8, k.afterOverflow.countsWord)] := by
  simp only [State.writeException, hk, Nat.not_lt.mpr hfull, if_false, State.putTicketWord_eq]
  rfl

/-- An exception entry changes the list or the counts of its ticket, and nothing else. -/
theorem State.writeException_frame (s : State) (n : Nat) (e : ExceptionEntry) :
    s.writeException n e =
      { s with
        ram := (s.writeException n e).ram
        unit := { s.unit with tickets := (s.writeException n e).unit.tickets } } := by
  cases hk : s.ticket n with
  | none => simp [State.writeException, hk]
  | some k =>
    rcases Nat.lt_or_ge k.entriesWritten.toNat k.listCapacity with hroom | hfull
    · rw [State.writeException_of_room hk e hroom]
      rfl
    · rw [State.writeException_of_full hk e hfull]
      rfl

theorem State.writeException_ticket_ne (s : State) {n m : Nat} (hm : m ≠ n) (e : ExceptionEntry) :
    (s.writeException n e).ticket m = s.ticket m := by
  cases hk : s.ticket n with
  | none => simp [State.writeException, hk]
  | some k =>
    rcases Nat.lt_or_ge k.entriesWritten.toNat k.listCapacity with hroom | hfull
    · rw [State.writeException_of_room hk e hroom]
      exact s.setTicket_ticket_ne hm _
    · rw [State.writeException_of_full hk e hfull]
      exact s.setTicket_ticket_ne hm _

/-- With room in a list that lies off the board: the words of the entry, the counts word, and every other byte. -/
theorem State.writeException_ram {s : State} {n : Nat} {k : Ticket} (hk : s.ticket n = some k) (e : ExceptionEntry)
    (h : s.ram.wf = true) (hb : s.boardBase % 4 = 0) (hn : n < 32) (hroom : k.entriesWritten.toNat < k.listCapacity)
    (haligned : k.listAddress % 16 = 0)
    (hoff : k.listAddress + 16 * k.listCapacity ≤ s.boardBase ∨ s.boardBase + 4096 ≤ k.listAddress) :
    let t := s.writeException n e
    let place := k.listAddress + 16 * k.entriesWritten.toNat
    (∀ q ∈ e.fields, t.ram.word (place + q.1) = q.2)
      ∧ t.ticketWord n 8 = k.afterEntry.countsWord
      ∧ ∀ x, (x < place ∨ place + 16 ≤ x) → x / 4 ≠ s.ticketOffset n 8 / 4 → t.ram.byte x = s.ram.byte x := by
  intro t place
  have hoffsets : ∀ q ∈ e.fields, q.1 < 16 := by simp [ExceptionEntry.fields]
  have hcounts : ∀ x, ∀ q ∈ ([(8, k.afterEntry.countsWord)] : List (Nat × Word)),
      x / 4 ≠ s.ticketOffset n 8 / 4 → x / 4 ≠ (s.ticketOffset n 0 + q.1) / 4 := by
    simp [State.ticketOffset_eq s n 8]
  have hlist := Ram.wf_setFields h place e.fields
  have ht : t = ((s.onRam (·.setFields place e.fields)).setTicket n k.afterEntry).putFields n
      [(8, k.afterEntry.countsWord)] := State.writeException_of_room hk e hroom
  have hram : t.ram = (s.ram.setFields place e.fields).setFields (s.ticketOffset n 0) [(8, k.afterEntry.countsWord)] := by
    rw [ht]
    rfl
  rw [hram]
  refine ⟨fun q hq => ?_, ?_, fun x hx hne => ?_⟩
  · have hq16 := hoffsets q hq
    rw [Ram.word_setFields_of_ne hlist, Ram.word_setFields_of_mem h (by omega) (by simp [ExceptionEntry.fields]) hq]
    refine fun r hr => hcounts _ r hr ?_
    simp only [State.ticketOffset, place]
    omega
  · rw [ht]
    exact State.ticketWord_putFields_of_mem (s := (s.onRam (·.setFields place e.fields)).setTicket n k.afterEntry) hlist hb
      (by simp) (by simp)
  · rw [Ram.byte_setFields_of_ne hlist fun r hr => hcounts x r hr hne, Ram.byte_setFields_of_ne h]
    intro q hq
    have := hoffsets q hq
    omega

end Sys2Proof.Machine
end

section
namespace Sys2Proof.Tickets
open Sys2Proof.Machine

/-- Settles O23: a NUDGE in RUNNING and an expiry of the running timer both ask for a sweep. -/
theorem sweepRequestsStartOrMark : Obligations.SweepRequestsStartOrMark := by
  intro s v
  refine ⟨fun hstill => ?_, fun hrun hhalt => ⟨fun hidle => ?_, fun hbusy => ?_, fun htimer => ?_⟩⟩
  · simp [exec, execNudge, State.nudged, hstill]
  · simp [exec, execNudge, State.nudged, State.halting, State.askSweep, State.startSweep, State.onUnit, hrun, hhalt, hidle]
  · simp [exec, execNudge, State.nudged, State.halting, State.askSweep, State.onUnit, hrun, hhalt, hbusy]
  · have hstarts : s.sweepsStart = true := by simp [State.sweepsStart, State.halting, hrun, hhalt]
    simp only [exec, execSweepTimerExpiry, htimer, hstarts, Bool.and_self, if_true]
    rfl

/-- Settles O17: a POSTED word is settled with zero counts, and every other word refuses the command. -/
theorem cancelOfASlotNotHeld : Obligations.CancelOfASlotNotHeld := by
  refine ⟨fun s n hn hactive hrun hnone hgood hposted hb hwf => ?_, fun s n hn hactive hrun hnone =>
    ⟨fun hgood hother => ?_, fun hfaulty => ?_⟩⟩
  · rw [exec_cancel hn hactive hrun, State.cancelTicket_of_posted (s := s.nameCommand 6#4) hnone hgood hposted,
      State.settleUnheld_eq]
    obtain ⟨⟨hsequence, hcounts, hmark, htallies, hframe⟩, hword, houtcome, hstop⟩ :=
      State.putFields_unheld (s := s.nameCommand 6#4) hwf hb n .cancelled .none
    exact ⟨_, rfl, rfl, hword, houtcome, hstop, hcounts, hmark, htallies, hsequence, hframe⟩
  · rw [exec_cancel hn hactive hrun, State.cancelTicket_of_other (s := s.nameCommand 6#4) hnone hgood hother]
    rfl
  · rw [exec_cancel hn hactive hrun, State.cancelTicket_of_faulty (s := s.nameCommand 6#4) hnone hfaulty]
    rfl

/-- Settles O26: the entry's words lie in the list, off the board, where the counts are kept. -/
theorem exceptionEntriesFillTheList : Obligations.ExceptionEntriesFillTheList := by
  intro s n k e hn hk hb hwf t
  refine ⟨⟨s.writeException_frame n e, fun m hm => s.writeException_ticket_ne hm e⟩,
    fun hroom hcapacity haligned hoff => ?_, fun hfull => ?_⟩
  · obtain ⟨hwritten, hcounts, hframe⟩ := State.writeException_ram hk e hwf hb hn hroom haligned hoff
    refine ⟨hwritten (0, _) (by simp [ExceptionEntry.fields]), hwritten (4, _) (by simp [ExceptionEntry.fields]), ?_,
      hwritten (12, _) (by simp [ExceptionEntry.fields]), hcounts, ?_, hframe⟩
    · exact (hwritten (8, cardWord e.card) (by simp [ExceptionEntry.fields])).trans (cardWord_eq e.card)
    · simp only [t]
      rw [State.writeException_of_room hk e hroom]
      exact State.setTicket_ticket_self _ n _
  · simp only [t]
    rw [State.writeException_of_full hk e hfull]
    exact ⟨s.setTicket_ticket_self n _, by
      rw [State.putFields_ram, Ram.setFields_cons, Ram.setFields_nil]; rfl⟩

end Sys2Proof.Tickets
end

section
/-! What the entries of a ticket take of its expiry and its cancellation, one after another (R106, R107, R122 to R125). -/

namespace Sys2Proof.Machine

/-! ## One entry an index (R107) -/

theorem State.indexes_nodup {s : State} (h : s.oneEntryEach = true) : (s.roster.entries.map (·.index)).Nodup := by
  simp only [State.oneEntryEach, Bool.and_eq_true, decide_eq_true_eq] at h
  exact h.1

theorem Entry.eq_of_index {l : List Entry} (h : (l.map (·.index)).Nodup) {e x : Entry} (he : e ∈ l) (hx : x ∈ l)
    (hindex : x.index = e.index) : x = e := List.inj_on_of_nodup_map h hx he hindex

theorem State.entry_of_mem {s : State} (h : (s.roster.entries.map (·.index)).Nodup) {e : Entry}
    (he : e ∈ s.roster.entries) : s.entry e.index = some e := by
  have hsome : (s.entry e.index).isSome = true := List.find?_isSome.mpr ⟨e, he, by simp⟩
  obtain ⟨x, hx⟩ := Option.isSome_iff_exists.mp hsome
  have hmem : x ∈ s.roster.entries := List.mem_of_find?_eq_some hx
  have hindex : x.index = e.index := by simpa using List.find?_some hx
  rw [hx, Entry.eq_of_index h he hmem hindex]

/-! ## What one entry takes (R122 to R125) -/

theorem Closing.delivery_code (c : Closing) : c.delivery.code = c.shows := by cases c <;> rfl

theorem State.askDelivery_eq (s : State) (i : Nat) (c : Closing) :
    s.askDelivery i c.delivery =
      { s with cache := { s.cache with deliveryRequests := s.cache.deliveryRequests ++ [deliveryWrite i c.shows] } } := by
  rw [← Closing.delivery_code]
  rfl

theorem State.entriesTake_of_same {s : State} {e : Entry} {f : Entry → Entry × Option Closing} (hf : f e = (e, none)) :
    s.entriesTake [e] f = s := by
  have hmap : s.roster.entries.map (fun x => if x ∈ [e] then (f x).1 else x) = s.roster.entries := by
    refine (List.map_congr_left fun x _ => ?_).trans s.roster.entries.map_id
    by_cases hx : x = e <;> simp [hx, hf]
  simp only [State.entriesTake, hmap, List.filterMap_cons, List.filterMap_nil, hf, Option.map_none, List.append_nil]

/-- The entry of an index is changed at its place. -/
theorem State.changeEntry_eq {s : State} (h : (s.roster.entries.map (·.index)).Nodup) {e : Entry}
    (he : e ∈ s.roster.entries) {g : Entry → Entry} {f : Entry → Entry × Option Closing} (hf : (f e).1 = g e) :
    s.changeEntry e.index g =
      { s with roster := { s.roster with
          entries := s.roster.entries.map fun x => if x ∈ [e] then (f x).1 else x } } := by
  have hmap : s.roster.entries.map (fun x => if x.index = e.index then g x else x) =
      s.roster.entries.map fun x => if x ∈ [e] then (f x).1 else x := by
    refine List.map_congr_left fun x hx => ?_
    by_cases hindex : x.index = e.index
    · simp [Entry.eq_of_index h he hx hindex, hf]
    · have hne : x ≠ e := fun heq => hindex (heq ▸ rfl)
      simp [hindex, hne]
  rw [← hmap]
  rfl

theorem State.entriesTake_of_changed {s : State} (h : (s.roster.entries.map (·.index)).Nodup) {e : Entry}
    (he : e ∈ s.roster.entries) {g : Entry → Entry} {f : Entry → Entry × Option Closing} (hf : f e = (g e, none)) :
    s.changeEntry e.index g = s.entriesTake [e] f := by
  rw [State.changeEntry_eq h he (f := f) (by rw [hf])]
  simp [State.entriesTake, hf]

theorem State.entriesTake_of_removed {s : State} (h : (s.roster.entries.map (·.index)).Nodup) {e : Entry}
    (he : e ∈ s.roster.entries) {c : Closing} {f : Entry → Entry × Option Closing}
    (hf : f e = ({ e with removing := some c }, some c)) : s.beginRemoval e.index c = s.entriesTake [e] f := by
  rw [State.beginRemoval, State.askDelivery_eq,
    State.changeEntry_eq h he (g := fun e => { e with removing := some c }) (f := f) (by rw [hf])]
  simp [State.entriesTake, hf]

theorem State.expireEntry_eq {s : State} (h : (s.roster.entries.map (·.index)).Nodup) {e : Entry}
    (he : e ∈ s.roster.entries) : s.expireEntry e.index = s.entriesTake [e] Entry.takesExpiry := by
  simp only [State.expireEntry, State.entry_of_mem h he]
  split
  case isTrue hremoving => rw [State.entriesTake_of_same (by simp [Entry.takesExpiry, hremoving])]
  case isFalse hfree =>
    split
    case isTrue hbusy => exact State.entriesTake_of_changed h he (by simp [Entry.takesExpiry, hfree, hbusy])
    case isFalse hidle =>
      split <;> rename_i hstate <;>
        exact State.entriesTake_of_removed h he (by simp [Entry.takesExpiry, hfree, hidle, hstate])

theorem State.cancelEntry_eq {s : State} (h : (s.roster.entries.map (·.index)).Nodup) {e : Entry}
    (he : e ∈ s.roster.entries) : s.cancelEntry e.index = s.entriesTake [e] fun x => x.takesCancel (s.passed x) := by
  simp only [State.cancelEntry, State.entry_of_mem h he]
  split
  case isTrue hremoving => rw [State.entriesTake_of_same (by simp [Entry.takesCancel, hremoving])]
  case isFalse hfree =>
    split
    case isTrue hbusy => exact State.entriesTake_of_changed h he (by simp [Entry.takesCancel, hfree, hbusy])
    case isFalse hidle =>
      split
      next hstate => exact State.entriesTake_of_removed h he (by simp [Entry.takesCancel, hfree, hidle, hstate])
      next hstate => exact State.entriesTake_of_changed h he (by simp [Entry.takesCancel, hfree, hidle, hstate])
      next hstate =>
        split
        case isTrue hpassed =>
          refine State.entriesTake_of_removed h he ?_
          simp [Entry.takesCancel, hfree, hidle, hstate, show s.passed e = true from hpassed]
        case isFalse hnot =>
          refine State.entriesTake_of_changed h he ?_
          simp [Entry.takesCancel, hfree, hidle, hstate, show s.passed e = false from Bool.eq_false_iff.mpr hnot]
      next hstate => rw [State.entriesTake_of_same (by simp [Entry.takesCancel, hfree, hidle, hstate])]

theorem Entry.takesExpiry_index (e : Entry) : e.takesExpiry.1.index = e.index := by
  simp only [Entry.takesExpiry]
  split
  · rfl
  · split
    · rfl
    · split <;> rfl

theorem Entry.takesCancel_index (e : Entry) (passed : Bool) : (e.takesCancel passed).1.index = e.index := by
  simp only [Entry.takesCancel]
  split
  · rfl
  · split
    · rfl
    · split
      · rfl
      · rfl
      · split <;> rfl
      · rfl

/-! ## What several entries take, one after another (R123, R124) -/

theorem State.entriesTake_indexes (s : State) (which : List Entry) {f : Entry → Entry × Option Closing}
    (hf : ∀ e, (f e).1.index = e.index) :
    (s.entriesTake which f).roster.entries.map (·.index) = s.roster.entries.map (·.index) := by
  simp only [State.entriesTake, List.map_map]
  refine List.map_congr_left fun e _ => ?_
  by_cases he : e ∈ which <;> simp [he, hf]

/-- The first entry takes the action, then the others: each keeps its index, so the first is none of the others after it. -/
theorem State.entriesTake_cons {s : State} (e : Entry) {rest : List Entry} {f : Entry → Entry × Option Closing}
    (hf : ∀ e, (f e).1.index = e.index) (hnot : e.index ∉ rest.map (·.index)) :
    (s.entriesTake [e] f).entriesTake rest f = s.entriesTake (e :: rest) f := by
  have hmap : ∀ x, (if (if x ∈ [e] then (f x).1 else x) ∈ rest then (f (if x ∈ [e] then (f x).1 else x)).1
      else if x ∈ [e] then (f x).1 else x) = if x ∈ e :: rest then (f x).1 else x := by
    intro x
    by_cases hx : x = e
    · have hleft : (f e).1 ∉ rest := fun hmem => hnot (List.mem_map.mpr ⟨_, hmem, hf e⟩)
      simp [hx, hleft]
    · simp [hx]
  simp only [State.entriesTake, List.map_map, Function.comp_def, hmap]
  cases hc : (f e).2 <;> simp [hc]

theorem State.foldl_entriesTake {act : State → Nat → State} {f : Entry → Entry × Option Closing} {s : State}
    (hf : ∀ e, (f e).1.index = e.index)
    (hact : ∀ (t : State) (e : Entry), t.time = s.time → (t.roster.entries.map (·.index)).Nodup →
      e ∈ t.roster.entries → act t e.index = t.entriesTake [e] f)
    (hs : (s.roster.entries.map (·.index)).Nodup) {which : List Entry} (hwhich : (which.map (·.index)).Nodup)
    (hmem : ∀ e ∈ which, e ∈ s.roster.entries) : (which.map (·.index)).foldl act s = s.entriesTake which f := by
  induction which generalizing s with
  | nil => simp [State.entriesTake]
  | cons e rest ih =>
    rw [List.map_cons, List.nodup_cons] at hwhich
    obtain ⟨hnot, hrest⟩ := hwhich
    rw [List.forall_mem_cons] at hmem
    obtain ⟨he, hmem⟩ := hmem
    rw [List.map_cons, List.foldl_cons, hact s e rfl hs he, ← State.entriesTake_cons e hf hnot]
    refine ih hact (by rwa [State.entriesTake_indexes _ _ hf]) hrest fun x hx => ?_
    have hne : x ≠ e := fun heq => hnot (List.mem_map.mpr ⟨x, hx, by rw [heq]⟩)
    exact List.mem_map.mpr ⟨x, hmem x hx, by simp [hne]⟩

/-! ## The entries of a ticket (R106, R123) -/

theorem Roster.slotList_eq (r : Roster) (slot : Nat) : r.slotList slot = r.inListOrder slot := by
  simp only [Roster.slotList, Roster.inListOrder, List.filter_filter, Bool.and_comm]

theorem Roster.indexesOf_eq (r : Roster) (n : Nat) : r.indexesOf n = (r.ownedBy n).map (·.index) := by
  simp only [Roster.indexesOf, Roster.ownedBy, List.map_flatMap, Roster.slotList_eq]

theorem Roster.mem_of_mem_inListOrder {r : Roster} {slot : Nat} {e : Entry} (he : e ∈ r.inListOrder slot) :
    e ∈ r.entries ∧ e.slot = slot := by
  rw [Roster.inListOrder, List.mem_append, List.mem_filter, List.mem_filter] at he
  rcases he with ⟨hmem, hplace⟩ | ⟨hmem, hplace⟩ <;>
  · rw [Bool.and_eq_true, beq_iff_eq] at hplace
    exact ⟨hmem, hplace.1⟩

theorem Roster.inListOrder_nodup {r : Roster} (h : r.entries.Nodup) (slot : Nat) : (r.inListOrder slot).Nodup := by
  refine List.Nodup.append (h.filter _) (h.filter _) fun e hurgent hovernight => ?_
  simp only [List.mem_filter, Bool.and_eq_true, beq_iff_eq] at hurgent hovernight
  exact absurd (hurgent.2.2.symm.trans hovernight.2.2) (by simp)

theorem Roster.mem_of_mem_ownedBy {r : Roster} {n : Nat} {e : Entry} (he : e ∈ r.ownedBy n) : e ∈ r.entries := by
  obtain ⟨slot, -, hslot⟩ := List.mem_flatMap.mp he
  exact (Roster.mem_of_mem_inListOrder (List.mem_of_mem_filter hslot)).1

theorem Roster.ownedBy_nodup {r : Roster} (h : r.entries.Nodup) (n : Nat) : (r.ownedBy n).Nodup := by
  refine List.nodup_flatMap.mpr ⟨fun slot _ => (Roster.inListOrder_nodup h slot).filter _, ?_⟩
  refine List.Pairwise.imp (fun {a b} hab => ?_) List.nodup_range
  intro e ha hb
  have hslots := (Roster.mem_of_mem_inListOrder (List.mem_of_mem_filter ha)).2.symm.trans
    (Roster.mem_of_mem_inListOrder (List.mem_of_mem_filter hb)).2
  exact hab hslots

theorem Roster.ownedBy_indexes_nodup {r : Roster} (h : (r.entries.map (·.index)).Nodup) (n : Nat) :
    ((r.ownedBy n).map (·.index)).Nodup :=
  (Roster.ownedBy_nodup h.of_map n).map_on fun _ hx _ hy hindex =>
    Entry.eq_of_index h (Roster.mem_of_mem_ownedBy hy) (Roster.mem_of_mem_ownedBy hx) hindex

/-- The Roster takes an expiry entry by entry, as all of the ticket's entries take it (R123). -/
theorem State.expireEntries_eq {s : State} (h : (s.roster.entries.map (·.index)).Nodup) (n : Nat) :
    s.expireEntries n = s.expiresEntries n := by
  rw [State.expireEntries, Roster.indexesOf_eq, State.expiresEntries]
  exact State.foldl_entriesTake Entry.takesExpiry_index (fun t e _ ht he => State.expireEntry_eq ht he) h
    (Roster.ownedBy_indexes_nodup h n) fun _ he => Roster.mem_of_mem_ownedBy he

theorem Entry.awaited_eq (n : Nat) (e : Entry) :
    e.awaited n = if e.owner = n then { e with cancelWaits := e.cancelWaits || e.removing.isSome } else e := by
  by_cases howner : e.owner = n <;> cases hremoving : e.removing <;> simp [Entry.awaited, howner, hremoving]
  cases e
  simp_all

/-- The Roster takes a cancellation entry by entry, and CANCEL waits for the removals there are then (R124). -/
theorem State.cancelEntries_eq {s : State} (h : (s.roster.entries.map (·.index)).Nodup) (n : Nat) :
    s.cancelEntries n = s.cancelsEntries n := by
  have htakes : (s.roster.indexesOf n).foldl State.cancelEntry s =
      s.entriesTake (s.roster.ownedBy n) fun e => e.takesCancel (s.passed e) := by
    rw [Roster.indexesOf_eq]
    refine State.foldl_entriesTake (fun e => e.takesCancel_index _) (fun t e htime ht he => ?_) h
      (Roster.ownedBy_indexes_nodup h n) fun _ he => Roster.mem_of_mem_ownedBy he
    rw [State.cancelEntry_eq ht he]
    simp only [State.passed, htime]
  rw [State.cancelEntries, htakes, State.cancelsEntries, State.awaitRemovals, funext (Entry.awaited_eq n)]
  rfl

theorem State.cancelsEntries_indexes (s : State) (n : Nat) :
    (s.cancelsEntries n).roster.entries.map (·.index) = s.roster.entries.map (·.index) := by
  rw [← s.entriesTake_indexes (s.roster.ownedBy n) fun e => e.takesCancel_index (s.passed e)]
  simp only [State.cancelsEntries, List.map_map]
  refine List.map_congr_left fun e _ => ?_
  by_cases howner : e.owner = n <;> simp [howner]

/-! ## The end of a CANCEL (R52, R124) -/

theorem State.finishCancel_eq (s : State) : s.finishCancel = s.endsCancel := rfl

end Sys2Proof.Machine
end

section
/-! The end of a walk: the lists kept by rising number, what a CANCEL waits for, and what the end leaves of the ticket, the
board and the roster (R45, R50 to R52). -/

namespace Sys2Proof.Machine

/-! ## Lists kept by rising number -/

section Assoc

variable {α : Type}

theorem mem_of_assocFind {k : Nat} {v : α} {l : List (Nat × α)} (h : assocFind k l = some v) : (k, v) ∈ l := by
  induction l with
  | nil => simp [assocFind] at h
  | cons p rest ih =>
    obtain ⟨j, w⟩ := p
    simp only [assocFind] at h
    split at h
    next hj => simp_all
    next => exact List.mem_cons_of_mem _ (ih h)

theorem risingAbove_of_mem {low : Nat} {l : List (Nat × α)} (h : risingAbove low l = true) {p : Nat × α} (hp : p ∈ l) :
    low < p.1 := by
  induction l generalizing low with
  | nil => simp at hp
  | cons q rest ih =>
    simp only [risingAbove, Bool.and_eq_true, decide_eq_true_eq] at h
    rcases List.mem_cons.mp hp with rfl | hp
    · exact h.1
    · exact h.1.trans (ih h.2 hp)

theorem pairwise_of_rising {l : List (Nat × α)} (h : rising l = true) : l.Pairwise fun p q => p.1 < q.1 := by
  induction l with
  | nil => exact .nil
  | cons p rest ih => exact .cons (fun q hq => risingAbove_of_mem h hq) (ih (rising_of_risingAbove h))

theorem assocFind_of_mem {l : List (Nat × α)} (h : rising l = true) {p : Nat × α} (hp : p ∈ l) :
    assocFind p.1 l = some p.2 := by
  induction l with
  | nil => simp at hp
  | cons q rest ih =>
    rcases List.mem_cons.mp hp with rfl | hp
    · simp [assocFind]
    · have hlt : q.1 < p.1 := risingAbove_of_mem h hp
      simp [assocFind, hlt.ne, ih (rising_of_risingAbove h) hp]

@[simp] theorem assocPut_put (k : Nat) (v w : α) (l : List (Nat × α)) :
    assocPut k v (assocPut k w l) = assocPut k v l := by
  induction l with
  | nil => simp [assocPut]
  | cons p rest ih =>
    obtain ⟨j, u⟩ := p
    rcases Nat.lt_trichotomy k j with hlt | rfl | hgt
    · simp [assocPut, hlt]
    · simp [assocPut]
    · simp [assocPut, hgt.not_gt, hgt.ne', ih]

theorem assocPut_of_find {k : Nat} {v : α} {l : List (Nat × α)} (hl : rising l = true) (h : assocFind k l = some v) :
    assocPut k v l = l := by
  induction l with
  | nil => simp [assocFind] at h
  | cons p rest ih =>
    rcases List.mem_cons.mp (mem_of_assocFind h) with rfl | hmem
    · simp [assocPut]
    · have hlt : p.1 < k := risingAbove_of_mem hl hmem
      simp only [assocFind, hlt.ne, if_false] at h
      simp [assocPut, hlt.not_gt, hlt.ne', ih (rising_of_risingAbove hl) h]

end Assoc

/-! ## The end of a walk (R45, R50, R51, R52) -/

theorem State.finishCancel_unit (s : State) : s.finishCancel.unit = s.unit := by
  unfold State.finishCancel
  split
  · split <;> rfl
  · rfl

/-- A CANCEL in progress has something left to wait for. -/
def State.CancelWaits (s : State) : Prop :=
  ∀ n, s.host.active = some (.cancel n) →
    (s.walk.any fun w => w.slot == n) = true ∨ (s.roster.entries.any fun e => e.owner == n && e.cancelWaits) = true

theorem State.finishCancel_of_waits {s : State} (h : s.CancelWaits) : s.finishCancel = s := by
  unfold State.finishCancel
  split
  next n hactive => rw [if_pos ((Bool.or_eq_true ..).mpr (h n hactive))]
  next => rfl

theorem State.finishCancel_cancelWaits (s : State) : s.finishCancel.CancelWaits := by
  unfold State.finishCancel
  split
  next n hactive =>
    split
    next hwaits =>
      intro m hm
      obtain rfl : n = m := by simpa using hactive.symm.trans hm
      simpa using hwaits
    next => exact fun m hm => nomatch hm
  next hnone => exact fun m hm => absurd hm (hnone m)

/-- The ticket whose walk has ended: DELIVERING with its provisional outcome (R45). -/
def Ticket.walked (k : Ticket) (o : TicketOutcome) (r : Reason) (stop : Option Nat) : Ticket :=
  { k with state := .delivering, outcome := some o, reason := r, stopCard := stop }

/-- The walker is free of the walk of the ticket of slot n, whose context may still name another state; its handoff word
may have been written and causes may have been latched since `s`. -/
def State.walkOver (s : State) (n : Nat) (k : Ticket) (c : ContextState) (first : List (Nat × Word)) (causes : BitVec 9) :
    State :=
  { s with
    ram := (s.putFields n first).ram
    unit := { s.unit with tickets := assocPut n { k with state := c } s.unit.tickets }
    host := { s.host with attention := s.host.attention ||| causes } }

theorem State.walkOver_self {s : State} {n : Nat} {k : Ticket} (hrising : rising s.unit.tickets = true)
    (hk : s.ticket n = some k) : s.walkOver n k k.state [] 0#9 = s := by
  simp [State.walkOver, assocPut_of_find hrising hk]

theorem State.walkOver_ticket (s : State) (n : Nat) (k : Ticket) (c : ContextState) (first : List (Nat × Word))
    (causes : BitVec 9) : (s.walkOver n k c first causes).ticket n = some { k with state := c } := assocFind_put_self _ _ _

/-- The end of a walk with live entries left, before the Roster takes anything. -/
def State.walkDelivers (s : State) (n : Nat) (k : Ticket) (o : TicketOutcome) (r : Reason) (stop : Option Nat)
    (first : List (Nat × Word)) (causes : BitVec 9) : State :=
  { s with
    ram := (s.putFields n (first ++ (tallyFields k.tally ++ [(0, 4#32)]))).ram
    unit := { s.unit with tickets := assocPut n (k.walked o r stop) s.unit.tickets }
    host := { s.host with attention := s.host.attention ||| causes } }

/-- The end of a walk with no live entry left, before CANCEL may give DONE. -/
def State.walkSettles (s : State) (n : Nat) (k : Ticket) (o : TicketOutcome) (r : Reason) (stop : Option Nat)
    (first : List (Nat × Word)) (causes : BitVec 9) : State :=
  { s with
    ram := (s.putFields n ((first ++ tallyFields k.tally) ++ k.settledFields o r stop)).ram
    unit := { s.unit with tickets := assocDrop n (assocPut n (k.walked o r stop) s.unit.tickets) }
    host := { s.host with attention := s.host.attention ||| causes ||| 0x004#9 } }

/-- What the Roster takes at the end of a walk with live entries left: the cancellation, then the expiry (R51, R52). -/
def State.rosterTakesEnd (b : State) (n : Nat) (k : Ticket) : State :=
  let d := if k.cancelled then b.cancelsEntries n else b
  (if k.expired then d.expiresEntries n else d).endsCancel

theorem State.rosterTakesEnd_eq {b : State} {n : Nat} {k : Ticket}
    (h : k.cancelled = true ∨ k.expired = true → (b.roster.entries.map (·.index)).Nodup) :
    (let d := if k.cancelled then b.cancelEntries n else b;
      (if k.expired then d.expireEntries n else d).finishCancel) = b.rosterTakesEnd n k := by
  simp only [State.rosterTakesEnd, ← State.finishCancel_eq]
  refine congrArg State.finishCancel ?_
  cases hcancelled : k.cancelled <;> cases hexpired : k.expired <;>
    simp only [hcancelled, hexpired, Bool.false_eq_true, if_false, if_true, true_or, or_true, forall_const] at h ⊢
  · rw [State.expireEntries_eq h]
  · rw [State.cancelEntries_eq h]
  · rw [State.cancelEntries_eq h, State.expireEntries_eq (by rwa [State.cancelsEntries_indexes])]

theorem State.rosterTakesEnd_unit (b : State) (n : Nat) (k : Ticket) : (b.rosterTakesEnd n k).unit = b.unit := by
  rw [State.rosterTakesEnd, ← State.finishCancel_eq, State.finishCancel_unit]
  cases k.cancelled <;> cases k.expired <;> rfl

theorem State.endTicketWalk_of_live {s : State} {n : Nat} {k : Ticket} (c : ContextState) (o : TicketOutcome) (r : Reason)
    (stop : Option Nat) (first : List (Nat × Word)) (causes : BitVec 9) (hlive : k.liveEntries ≠ 0#32)
    (hentries : k.cancelled = true ∨ k.expired = true → s.oneEntryEach = true) :
    (s.walkOver n k c first causes).endTicketWalk n o r stop =
      (s.walkDelivers n k o r stop first causes).rosterTakesEnd n k := by
  have hb : (((s.walkOver n k c first causes).setTicket n (k.walked o r stop)).putFields n (tallyFields k.tally)).putFields n
      [(0, 4#32)] = s.walkDelivers n k o r stop first causes := by
    simp only [State.putFields_append, State.walkDelivers, State.putFields_ram, Ram.setFields_append]
    simp only [State.putFields_eq, State.setTicket, State.onUnit, State.walkOver, assocPut_put, Ram.setFields_append]
    rfl
  simp only [State.endTicketWalk, State.walkOver_ticket, State.putTallies_eq, State.putTicketWord_eq]
  rw [if_neg (by exact hlive)]
  refine Eq.trans ?_ (State.rosterTakesEnd_eq (b := s.walkDelivers n k o r stop first causes)
    fun hend => State.indexes_nodup (hentries hend))
  rw [← hb]
  rfl

theorem State.endTicketWalk_of_dead {s : State} {n : Nat} {k : Ticket} (c : ContextState) (o : TicketOutcome) (r : Reason)
    (stop : Option Nat) (first : List (Nat × Word)) (causes : BitVec 9) (hdead : k.liveEntries = 0#32) :
    (s.walkOver n k c first causes).endTicketWalk n o r stop =
      (s.walkSettles n k o r stop first causes).finishCancel := by
  have hput : ((s.walkOver n k c first causes).setTicket n (k.walked o r stop)).putTallies n (k.walked o r stop) =
      ((s.walkOver n k c first causes).setTicket n (k.walked o r stop)).putFields n (tallyFields k.tally) :=
    State.putTallies_eq _ n _
  have hticket : (((s.walkOver n k c first causes).setTicket n (k.walked o r stop)).putFields n
      (tallyFields k.tally)).ticket n = some (k.walked o r stop) := State.setTicket_ticket_self _ n _
  have hsettle := State.settle_eq hticket
  simp only [State.putFields_append] at hsettle
  simp only [State.endTicketWalk, State.walkOver_ticket]
  rw [if_pos (by exact hdead)]
  refine congrArg State.finishCancel ?_
  refine (congrArg (State.settle · n) hput).trans (hsettle.trans ?_)
  simp only [State.putFields_eq, State.setTicket, State.onUnit, State.walkOver, assocPut_put, State.latch, State.onHost,
    State.dropTicket, State.walkSettles, List.append_assoc, Ram.setFields_append]
  rfl

theorem State.walkDelivers_endsWalk {s : State} {n : Nat} {k : Ticket} (o : TicketOutcome) (r : Reason)
    (stop : Option Nat) {first : List (Nat × Word)} (causes : BitVec 9) (hfirst : ∀ q ∈ first, q.1 = 0)
    (h : s.ram.wf = true) (hb : s.boardBase % 4 = 0) :
    let b := s.walkDelivers n k o r stop first causes
    (∀ j, j < 17 → b.ticketWord n (24 + 4 * j) = k.count j) ∧ b.ticketWord n 0 = 4#32
      ∧ (∀ off ∈ ([4, 8, 12, 16, 20] : List Nat), b.ticketWord n off = s.ticketWord n off)
      ∧ ∀ x, x < s.ticketOffset n 0 ∨ s.ticketOffset n 92 ≤ x → b.ram.byte x = s.ram.byte x := by
  intro b
  have hwf : (s.putFields n first).ram.wf = true := Ram.wf_setFields h _ _
  have hplaces : ((tallyFields k.tally ++ [((0 : Nat), 4#32)]).map fun q => q.1 / 4).Nodup := by
    simp [tallyFields, Tally.all, Tally.offset, Tally.place]
  have hput : ∀ {off : Nat} {w : Word}, (off, w) ∈ tallyFields k.tally ++ [(0, 4#32)] → b.ticketWord n off = w :=
    fun {off w} hmem => by
      have hram : b.ram = ((s.putFields n first).putFields n (tallyFields k.tally ++ [(0, 4#32)])).ram := by
        rw [State.putFields_append]
        rfl
      rw [State.ticketWord_of_ram (t := b) (s := (s.putFields n first).putFields n _) rfl hram]
      exact State.ticketWord_putFields_of_mem (s := s.putFields n first) hwf hb hplaces hmem
  have hplace : ∀ q ∈ first ++ (tallyFields k.tally ++ [(0, 4#32)]), q.1 = 0 ∨ 24 ≤ q.1 ∧ q.1 < 92 := by
    intro q hq
    rw [List.mem_append, List.mem_append, List.mem_singleton] at hq
    rcases hq with hq | hq | rfl
    · exact .inl (hfirst q hq)
    · exact .inr (offset_of_mem_tallyFields hq)
    · exact .inl rfl
  refine ⟨fun j hj => hput (List.mem_append_left _ (count_mem_tallyFields k hj)), hput (by simp), fun off hoff => ?_,
    fun x hx => ?_⟩
  · refine State.ticketWord_putFields_of_ne h hb fun q hq => ?_
    have hq := hplace q hq
    have hoffs : off = 4 ∨ off = 8 ∨ off = 12 ∨ off = 16 ∨ off = 20 := by simpa using hoff
    omega
  · refine State.byte_putFields h hb (fun q hq => ?_) hx
    have hq := hplace q hq
    omega

/-- The end of a walk, as R45 has it, from a state in which the walker is free of it. -/
theorem State.endTicketWalk_endsWalk {s : State} {n : Nat} {k : Ticket} (hmay : s.WalkMayEnd n k) (c : ContextState)
    (o : TicketOutcome) (r : Reason) (stop : Option Nat) {first : List (Nat × Word)} (causes : BitVec 9)
    (hfirst : ∀ q ∈ first, q.1 = 0) :
    s.endsWalk ((s.walkOver n k c first causes).endTicketWalk n o r stop) n k o r stop causes := by
  obtain ⟨⟨hrising, hk⟩, ⟨hbase, -⟩, hwf, hentries⟩ := hmay
  have hb : s.boardBase % 4 = 0 := by omega
  by_cases hlive : k.liveEntries = 0#32
  case pos =>
    refine ⟨s.walkSettles n k o r stop first causes, rfl, fun hne => absurd hlive hne, fun _ => ⟨?_, rfl, ?_⟩⟩
    · refine State.settles_of_fields (first := first ++ tallyFields k.tally) hwf hb rfl rfl (fun q hq => ?_)
        (assocFind_drop_self (rising_put n _ hrising)) fun m hm => ?_
      · rcases List.mem_append.mp hq with hq | hq
        · exact .inl (hfirst q hq)
        · exact .inr (offset_of_mem_tallyFields hq)
      · exact (assocFind_drop_ne hm _).trans (assocFind_put_ne hm _ _)
    · rw [State.endTicketWalk_of_dead c o r stop first causes hlive, State.finishCancel_eq]
  case neg =>
    obtain ⟨htallies, hword, hkept, hframe⟩ := State.walkDelivers_endsWalk (n := n) (k := k) o r stop causes hfirst hwf hb
    refine ⟨s.walkDelivers n k o r stop first causes, rfl, fun _ => ⟨rfl, rfl, htallies, hword, hkept, hframe, ?_⟩,
      fun heq => absurd heq hlive⟩
    exact State.endTicketWalk_of_live c o r stop first causes hlive hentries

/-- After the end of a walk its ticket waits for none. -/
theorem State.endTicketWalk_noneWaits {s : State} {n : Nat} {k : Ticket} (hmay : s.WalkMayEnd n k) (c : ContextState)
    (o : TicketOutcome) (r : Reason) (stop : Option Nat) (first : List (Nat × Word)) (causes : BitVec 9)
    (halone : ∀ m j, m ≠ n → s.ticket m = some j → ¬ j.waits) :
    ((s.walkOver n k c first causes).endTicketWalk n o r stop).noneWaits := by
  have hrising := rising_put n (k.walked o r stop) hmay.held.1
  by_cases hlive : k.liveEntries = 0#32
  case pos =>
    rw [State.endTicketWalk_of_dead c o r stop first causes hlive]
    simp only [State.noneWaits, State.ticket, State.finishCancel_unit]
    refine ⟨rising_drop n hrising, fun m j hj => ?_⟩
    by_cases hm : m = n
    · simp [hm, State.walkSettles, assocFind_drop_self hrising] at hj
    · refine halone m j hm (Eq.trans ?_ hj)
      simp [State.ticket, State.walkSettles, assocFind_drop_ne hm, assocFind_put_ne hm]
  case neg =>
    rw [State.endTicketWalk_of_live c o r stop first causes hlive hmay.entries]
    simp only [State.noneWaits, State.ticket, State.rosterTakesEnd_unit]
    refine ⟨hrising, fun m j hj => ?_⟩
    by_cases hm : m = n
    · subst hm
      obtain rfl : k.walked o r stop = j := by simpa [State.walkDelivers] using hj
      simp [Ticket.waits, Ticket.walked]
    · refine halone m j hm (Eq.trans ?_ hj)
      simp [State.ticket, State.walkDelivers, assocFind_put_ne hm]

end Sys2Proof.Machine
end

section
/-! The arbiter: which ticket ranks first, what its choice makes of a state, and a walk that ends at once (R40, R41, R44, R81
to R83). -/

namespace Sys2Proof.Machine

/-! ## The ticket that ranks first (R40) -/

theorem lowestSequence_mem {l : List (Nat × Ticket)} {p : Nat × Ticket} (h : lowestSequence l = some p) : p ∈ l := by
  induction l generalizing p with
  | nil => simp [lowestSequence] at h
  | cons a rest ih =>
    cases hrest : lowestSequence rest with
    | none => simp_all [lowestSequence]
    | some q =>
      have hq := ih hrest
      simp only [lowestSequence, hrest] at h
      split at h <;> simp_all

/-- The candidate of the lowest sequence, the first in the list among equals, is the one chosen. -/
theorem lowestSequence_eq {l : List (Nat × Ticket)} {p : Nat × Ticket} (hl : l.Pairwise fun a b => a.1 < b.1) (hp : p ∈ l)
    (hfirst : ∀ q ∈ l, q.1 ≠ p.1 →
      p.2.sequence.toNat < q.2.sequence.toNat ∨ p.2.sequence = q.2.sequence ∧ p.1 < q.1) :
    lowestSequence l = some p := by
  induction l with
  | nil => simp at hp
  | cons a rest ih =>
    rw [List.pairwise_cons] at hl
    obtain ⟨habove, hrest⟩ := hl
    rcases List.mem_cons.mp hp with rfl | hp
    · cases hlow : lowestSequence rest with
      | none => simp [lowestSequence, hlow]
      | some q =>
        have hq := lowestSequence_mem hlow
        have hnot : ¬ q.2.sequence.toNat < p.2.sequence.toNat := by
          rcases hfirst q (List.mem_cons_of_mem _ hq) (habove q hq).ne' with hlt | ⟨heq, -⟩
          · omega
          · simp [heq]
        simp [lowestSequence, hlow, hnot]
    · have hlt : p.2.sequence.toNat < a.2.sequence.toNat := by
        rcases hfirst a List.mem_cons_self (habove p hp).ne with hlt | ⟨-, hplace⟩
        · exact hlt
        · exact absurd hplace (habove p hp).not_gt
      simp [lowestSequence, ih hrest hp fun q hq => hfirst q (List.mem_cons_of_mem _ hq), hlt]

theorem Ticket.urgentCandidate_iff (k : Ticket) : k.urgentCandidate = true ↔ k.cls = .urgent ∧ k.state = .queued := by
  simp [Ticket.urgentCandidate]

theorem Ticket.overnightCandidate_iff (k : Ticket) :
    k.overnightCandidate = true ↔ k.cls = .overnight ∧ (k.state = .queued ∨ k.state = .parked) := by
  simp [Ticket.overnightCandidate]

theorem Ticket.waits_iff (k : Ticket) : k.waits ↔ k.urgentCandidate = true ∨ k.overnightCandidate = true := by
  rw [Ticket.urgentCandidate_iff, Ticket.overnightCandidate_iff, Ticket.waits]
  cases k.cls <;> simp

theorem State.chooseTicket_of_noneWaits {s : State} (h : s.noneWaits) : s.chooseTicket = none := by
  obtain ⟨hrising, hnone⟩ := h
  have hnot : ∀ p ∈ s.unit.tickets, ¬ p.2.waits := fun p hp => hnone p.1 p.2 (assocFind_of_mem hrising hp)
  have hurgent : s.unit.tickets.filter (fun p => p.2.urgentCandidate) = [] :=
    List.filter_eq_nil_iff.mpr fun p hp hc => hnot p hp (p.2.waits_iff.mpr (.inl hc))
  have hovernight : s.unit.tickets.filter (fun p => p.2.overnightCandidate) = [] :=
    List.filter_eq_nil_iff.mpr fun p hp hc => hnot p hp (p.2.waits_iff.mpr (.inr hc))
  simp [State.chooseTicket, hurgent, hovernight, lowestSequence]

theorem State.chooseTicket_of_ranksFirst {s : State} {n : Nat} {k : Ticket} (h : s.ranksFirst n k) :
    s.chooseTicket = some (n, k) := by
  obtain ⟨hrising, hk, hwaits, hfirst⟩ := h
  have hmem : (n, k) ∈ s.unit.tickets := mem_of_assocFind hk
  have hranks : ∀ q ∈ s.unit.tickets, q.1 ≠ n → q.2.waits → k.ranksBefore n q.2 q.1 := fun q hq hne =>
    hfirst q.1 q.2 hne (assocFind_of_mem hrising hq)
  have hsame : ∀ q ∈ s.unit.tickets, q.1 = n → q.2 = k := fun q hq heq =>
    Option.some.inj ((assocFind_of_mem hrising hq).symm.trans (heq ▸ hk))
  have hlowest : ∀ c : Ticket → Bool, c k = true → (∀ j, c j = true → j.waits ∧ j.cls = k.cls) →
      lowestSequence (s.unit.tickets.filter fun p => c p.2) = some (n, k) := by
    intro c hck hc
    refine lowestSequence_eq ((pairwise_of_rising hrising).filter _) (List.mem_filter.mpr ⟨hmem, hck⟩) fun q hq hne => ?_
    obtain ⟨hq, hcq⟩ := List.mem_filter.mp hq
    obtain ⟨hqwaits, hcls⟩ := hc q.2 hcq
    rcases hranks q hq hne hqwaits with ⟨hurgent, hovernight⟩ | ⟨-, hbefore⟩
    · simp [hcls, hurgent] at hovernight
    · exact hbefore
  rcases k.waits_iff.mp hwaits with hcandidate | hcandidate
  · have hchosen := hlowest Ticket.urgentCandidate hcandidate fun j hj =>
      ⟨j.waits_iff.mpr (.inl hj), (j.urgentCandidate_iff.mp hj).1.trans (k.urgentCandidate_iff.mp hcandidate).1.symm⟩
    simp [State.chooseTicket, hchosen]
  · have hovernight := (k.overnightCandidate_iff.mp hcandidate).1
    have hnone : s.unit.tickets.filter (fun p => p.2.urgentCandidate) = [] := by
      refine List.filter_eq_nil_iff.mpr fun q hq hc => ?_
      have hurgent := (q.2.urgentCandidate_iff.mp hc).1
      by_cases hne : q.1 = n
      · rw [hsame q hq hne, hovernight] at hurgent
        simp at hurgent
      · rcases hranks q hq hne (q.2.waits_iff.mpr (.inl hc)) with ⟨hk, -⟩ | ⟨hcls, -⟩
        · simp [hovernight] at hk
        · simp [hovernight, hurgent] at hcls
    have hchosen := hlowest Ticket.overnightCandidate hcandidate fun j hj =>
      ⟨j.waits_iff.mpr (.inr hj), (j.overnightCandidate_iff.mp hj).1.trans hovernight.symm⟩
    simp [State.chooseTicket, hnone, lowestSequence, hchosen]

/-! ## The arbiter (R40, R41, R44) -/

theorem State.walkerRuns_iff (s : State) :
    s.walkerRuns = true ↔ s.host.runState = .running ∧ s.host.active ≠ some .halt := by
  simp [State.walkerRuns, State.halting]

theorem State.arbitrateUpTo_of_rest {s : State} (h : s.walk.isSome = true ∨ s.walkerRuns = false ∨ s.noneWaits)
    (m : Nat) : State.arbitrateUpTo m s = s := by
  cases m with
  | zero => rfl
  | succ m =>
    unfold State.arbitrateUpTo
    split
    case isTrue => rfl
    case isFalse hfree =>
      rw [State.chooseTicket_of_noneWaits]
      rcases h with hwalk | hstopped | hnone
      · simp [hwalk] at hfree
      · simp [hstopped] at hfree
      · exact hnone

theorem State.arbitrateUpTo_of_ranksFirst {s : State} {n : Nat} {k : Ticket} (hwalk : s.walk = none)
    (hruns : s.walkerRuns = true) (h : s.ranksFirst n k) (m : Nat) :
    State.arbitrateUpTo (m + 1) s =
      State.arbitrateUpTo m (if k.state = .parked then s.resumeWalk n else s.startWalk n k) := by
  simp [State.arbitrateUpTo, hwalk, hruns, State.chooseTicket_of_ranksFirst h]

theorem State.takeWalk_eq {s : State} {n : Nat} {k : Ticket} (hk : s.ticket n = some k) (w : Walk) :
    s.takeWalk n w = s.takesWalk n k w := by
  simp only [State.takeWalk, State.changeTicket, hk]
  rfl

theorem State.startWalk_of_null {s : State} {n : Nat} {k : Ticket} (hwalk : s.walk = none) (hk : s.ticket n = some k)
    (hnull : k.firstLink = .null) :
    s.startWalk n k = (s.walkOver n k .walking [(0, 2#32)] 0#9).endTicketWalk n .complete .none none := by
  have hover : (s.takesWalk n k (Walk.start n k.firstLink)).withWalk none = s.walkOver n k .walking [(0, 2#32)] 0#9 := by
    simp only [State.takesWalk, State.withWalk, State.walkOver, State.putFields_ram, Ram.setFields_cons,
      Ram.setFields_nil, BitVec.or_zero, hwalk]
    rfl
  simp only [State.startWalk, State.takeWalk_eq hk, hover]
  simp [hnull]

theorem State.resumeArea_words (s : State) (n : Nat) :
    s.ram.words (s.ticketOffset n 96) 8 = (List.range 8).map fun j => s.ram.word (s.ticketOffset n (96 + 4 * j)) := by
  simp [Ram.words, State.ticketOffset, Nat.add_assoc]

theorem State.resumeArea_faulty (s : State) (n : Nat) :
    s.ram.anyFaulty (s.ticketOffset n 96) 8 = false ↔
      ∀ j, j < 8 → s.ram.faulty (s.ticketOffset n (96 + 4 * j)) = false := by
  simp [Ram.anyFaulty, State.ticketOffset, Nat.add_assoc]

/-- The arbiter's choice, in every state (R40, R41, R44). -/
theorem State.arbitrates_arbitrate (s : State) : s.arbitrates s.arbitrate := by
  refine ⟨fun hrest => State.arbitrateUpTo_of_rest ?_ 33, fun n k hwalk hrun hhalt hfirst => ?_⟩
  · rcases hrest with hwalk | hrun | hhalt | hnone
    · exact .inl hwalk
    · exact .inr (.inl (by simp [State.walkerRuns, hrun]))
    · exact .inr (.inl (by simp [State.walkerRuns, State.halting, hhalt]))
    · exact .inr (.inr hnone)
  · have hk : s.ticket n = some k := hfirst.2.1
    have harbitrate : s.arbitrate = _ :=
      State.arbitrateUpTo_of_ranksFirst hwalk (s.walkerRuns_iff.mpr ⟨hrun, hhalt⟩) hfirst 32
    refine ⟨fun hqueued hlink => ?start, fun hparked hreadable => ?resume, fun hmay halone =>
      ⟨fun hqueued hnull => ?ends, fun hparked hfault => ?lost⟩⟩
    case start =>
      rw [harbitrate, if_neg (by simp [hqueued]), State.startWalk, State.takeWalk_eq hk, if_neg hlink]
      exact State.arbitrateUpTo_of_rest (.inl rfl) 32
    case resume =>
      rw [harbitrate, if_pos hparked, State.resumeWalk, (s.resumeArea_faulty n).mpr hreadable, State.takeWalk_eq hk,
        s.resumeArea_words n]
      exact State.arbitrateUpTo_of_rest (.inl rfl) 32
    case ends =>
      rw [harbitrate, if_neg (by simp [hqueued]), State.startWalk_of_null hwalk hk hnull, State.arbitrateUpTo_of_rest
        (.inr (.inr (State.endTicketWalk_noneWaits hmay .walking .complete .none none _ _ halone)))]
      exact State.endTicketWalk_endsWalk hmay .walking .complete .none none 0#9 (by simp)
    case lost =>
      have hover : s.latch .memoryFault = s.walkOver n k k.state [] 0x010#9 := by
        simp [State.walkOver, assocPut_of_find hmay.held.1 hk]
        rfl
      have hfaulty : s.ram.anyFaulty (s.ticketOffset n 96) 8 = true :=
        Bool.not_eq_false _ ▸ mt (s.resumeArea_faulty n).mp hfault
      rw [harbitrate, if_pos hparked, State.resumeWalk, hfaulty, if_pos rfl, hover, State.arbitrateUpTo_of_rest
        (.inr (.inr (State.endTicketWalk_noneWaits hmay k.state .abridged .memory none _ _ halone)))]
      exact State.endTicketWalk_endsWalk hmay k.state .abridged .memory none 0x010#9 (by simp)

/-! ## A walk that ends at once (R51, R52, R82) -/

theorem State.withWalk_mayEnd {s : State} {n : Nat} {k : Ticket} (h : s.WalkMayEnd n k) :
    (s.withWalk none).WalkMayEnd n k :=
  ⟨h.held, h.board, h.canonical, h.entries⟩

theorem State.endTicketWalk_of_held {s : State} {n : Nat} {k : Ticket} (hmay : s.WalkMayEnd n k) (o : TicketOutcome)
    (r : Reason) (stop : Option Nat) : s.endsWalk (s.endTicketWalk n o r stop) n k o r stop 0#9 := by
  have hends := State.endTicketWalk_endsWalk hmay k.state o r stop (first := []) 0#9 (by simp)
  rwa [State.walkOver_self hmay.held.1 hmay.held.2] at hends

/-- The walk in progress ends, and the arbiter chooses. -/
theorem State.endWalk_walkStops {s : State} {w : Walk} (hw : s.walk = some w) (o : TicketOutcome) (r : Reason)
    (stop : Option Nat) : s.walkStops (s.endWalk o r stop) w o r stop 0#9 := by
  intro k hmay
  refine ⟨(s.withWalk none).endTicketWalk w.slot o r stop,
    State.endTicketWalk_of_held (State.withWalk_mayEnd hmay) o r stop, ?_⟩
  simp only [State.endWalk, hw]
  exact State.arbitrates_arbitrate _

theorem State.takeWalk_host (s : State) (n : Nat) (w : Walk) : (s.takeWalk n w).host = s.host := by
  cases hk : s.ticket n <;> simp [State.takeWalk, State.changeTicket, hk]

theorem State.takeWalk_roster (s : State) (n : Nat) (w : Walk) : (s.takeWalk n w).roster = s.roster := by
  cases hk : s.ticket n <;> simp [State.takeWalk, State.changeTicket, hk]

/-- With no walk in progress CANCEL waits for entries alone. -/
theorem State.CancelWaits.of_same {s t : State} (h : s.CancelWaits) (hwalk : s.walk = none) (hhost : t.host = s.host)
    (hroster : t.roster = s.roster) : t.CancelWaits := by
  intro n hn
  rw [hroster]
  exact .inr ((h n (hhost ▸ hn)).resolve_left (by simp [hwalk]))

theorem State.endTicketWalk_cancelWaits {s : State} {n : Nat} (h : s.ticket n = none → s.CancelWaits) (o : TicketOutcome)
    (r : Reason) (stop : Option Nat) : (s.endTicketWalk n o r stop).CancelWaits := by
  unfold State.endTicketWalk
  split
  next hnone => exact h hnone
  · dsimp only
    split <;> exact State.finishCancel_cancelWaits _

theorem State.startWalk_cancelWaits {s : State} (h : s.CancelWaits) (hwalk : s.walk = none) (n : Nat) (k : Ticket) :
    (s.startWalk n k).CancelWaits := by
  simp only [State.startWalk]
  split
  · exact State.endTicketWalk_cancelWaits
      (s := (s.takeWalk n _).withWalk none)
      (fun _ => h.of_same hwalk (s.takeWalk_host n (Walk.start n k.firstLink))
        (s.takeWalk_roster n (Walk.start n k.firstLink))) _ _ _
  · exact h.of_same hwalk (s.takeWalk_host n _) (s.takeWalk_roster n _)

theorem State.resumeWalk_cancelWaits {s : State} (h : s.CancelWaits) (hwalk : s.walk = none) (n : Nat) :
    (s.resumeWalk n).CancelWaits := by
  simp only [State.resumeWalk]
  split
  · exact State.endTicketWalk_cancelWaits (s := s.latch .memoryFault) (fun _ => h) _ _ _
  · exact h.of_same hwalk (s.takeWalk_host n _) (s.takeWalk_roster n _)

/-- The arbiter takes nothing from what a CANCEL waits for: no walk is in progress when it chooses. -/
theorem State.arbitrateUpTo_cancelWaits {s : State} (h : s.CancelWaits) (m : Nat) :
    (State.arbitrateUpTo m s).CancelWaits := by
  induction m generalizing s with
  | zero => exact h
  | succ m ih =>
    unfold State.arbitrateUpTo
    split
    case isTrue => exact h
    case isFalse hfree =>
      have hwalk : s.walk = none := by simp_all
      split
      next => exact h
      next n k _ =>
        refine ih ?_
        split
        · exact State.resumeWalk_cancelWaits h hwalk n
        · exact State.startWalk_cancelWaits h hwalk n k

/-- A CANCEL that ended the walk has had its answer, or still waits once the arbiter has chosen. -/
theorem State.endWalk_finishCancel_walkStops {s : State} {w : Walk} (hw : s.walk = some w) (o : TicketOutcome)
    (r : Reason) (stop : Option Nat) : s.walkStops (s.endWalk o r stop).finishCancel w o r stop 0#9 := by
  intro k hmay
  obtain ⟨v, hends, harbitrates⟩ := State.endWalk_walkStops hw o r stop k hmay
  have hwaits : (s.endWalk o r stop).CancelWaits := by
    simp only [State.endWalk, hw]
    refine State.arbitrateUpTo_cancelWaits (State.endTicketWalk_cancelWaits (fun hnone => ?_) _ _ _) 33
    exact absurd (hnone.symm.trans hmay.held.2) (by simp)
  rw [State.finishCancel_of_waits hwaits]
  exact ⟨v, hends, harbitrates⟩

end Sys2Proof.Machine
end

section
/-! Reports of deliveries and the closing of an entry (R46, R47, R50, R121, R122). -/

namespace Sys2Proof.Machine

/-! ## Reports of deliveries (R46, R47, R50) -/

theorem Tally.offset_eq (k : Tally) : k.offset = 24 + 4 * k.place := rfl

/-- A tally is counted on chip and in its field (R46). -/
theorem State.countTally_eq {s : State} {n : Nat} (hlength : ∀ k, s.ticket n = some k → k.tallies.length = 17)
    (t : Tally) : s.countTally n t = s.tallied n t.place := by
  cases hk : s.ticket n with
  | none => simp [State.countTally, State.tallied, hk]
  | some k =>
    have hplace : t.place < k.tallies.length := by rw [hlength k hk]; exact t.place_lt
    have hread : (k.bump t).tally t = k.count t.place + 1#32 := by
      simp [Ticket.tally, Ticket.bump, Ticket.count, hplace]
    simp only [State.countTally, State.tallied, hk, hread]
    rfl

theorem State.tallied_tickets {s : State} {n place : Nat} (hrising : rising s.unit.tickets = true) :
    rising (s.tallied n place).unit.tickets = true := by
  unfold State.tallied
  split
  · exact hrising
  · exact rising_put n _ hrising

theorem State.tallied_wf {s : State} {n place : Nat} (h : s.ram.wf = true) : (s.tallied n place).ram.wf = true := by
  unfold State.tallied
  split
  · exact h
  · exact Ram.wf_setWord h _ _

/-- Counting a tally changes its ticket and its field. -/
theorem State.tallied_frame (s : State) (n place : Nat) :
    s.tallied n place =
      { s with
        ram := (s.tallied n place).ram
        unit := { s.unit with tickets := (s.tallied n place).unit.tickets } } := by
  cases hk : s.ticket n <;> simp [State.tallied, hk]

theorem State.writeException_wf {s : State} (h : s.ram.wf = true) (n : Nat) (e : ExceptionEntry) :
    (s.writeException n e).ram.wf = true := by
  unfold State.writeException
  split
  · exact h
  · split
    · exact Ram.wf_setWord (Ram.wf_setWords h _ _) _ _
    · exact Ram.wf_setWord h _ _

theorem State.writeException_tickets {s : State} (h : rising s.unit.tickets = true) (n : Nat) (e : ExceptionEntry) :
    rising (s.writeException n e).unit.tickets = true := by
  unfold State.writeException
  split
  · exact h
  · split <;> exact rising_put n _ h

theorem State.writeException_tallies {s : State} {n : Nat} {e : ExceptionEntry}
    (h : ∀ k, s.ticket n = some k → k.tallies.length = 17) :
    ∀ k, (s.writeException n e).ticket n = some k → k.tallies.length = 17 := by
  cases hk : s.ticket n with
  | none => simp [State.writeException, hk]
  | some k =>
    intro j hj
    rcases Nat.lt_or_ge k.entriesWritten.toNat k.listCapacity with hroom | hfull
    · rw [State.writeException_of_room hk e hroom] at hj
      obtain rfl : k.afterEntry = j := Option.some.inj ((State.setTicket_ticket_self _ n _).symm.trans hj)
      exact h k hk
    · rw [State.writeException_of_full hk e hfull] at hj
      obtain rfl : k.afterOverflow = j := Option.some.inj ((State.setTicket_ticket_self _ n _).symm.trans hj)
      exact h k hk

/-- A report's entry, if it gives one, and its tally: what they leave of the state. -/
theorem State.reported_frame (s : State) (n place : Nat) (about : Option ExceptionEntry) :
    (s.writeExceptionOf n about).tallied n place =
      { s with
        ram := ((s.writeExceptionOf n about).tallied n place).ram
        unit := { s.unit with tickets := ((s.writeExceptionOf n about).tallied n place).unit.tickets } } := by
  rw [State.tallied_frame]
  cases about with
  | none => rfl
  | some e =>
    simp only [State.writeExceptionOf]
    rw [State.writeException_frame]

theorem State.settleIfDone_of_done {s : State} {n : Nat} {k : Ticket} (hk : s.ticket n = some k)
    (hstate : k.state = .delivering) (hdead : k.liveEntries = 0#32) : s.settleIfDone n = s.settle n := by
  simp [State.settleIfDone, hk, hstate, Ticket.liveCount_eq, hdead]

theorem State.settleIfDone_of_live {s : State} {n : Nat}
    (h : ∀ k, s.ticket n = some k → k.state = .delivering → k.liveEntries ≠ 0#32) : s.settleIfDone n = s := by
  cases hk : s.ticket n with
  | none => simp [State.settleIfDone, hk]
  | some k =>
    simp only [State.settleIfDone, hk]
    exact if_neg fun ⟨hstate, hdead⟩ => h k hk hstate hdead

/-- A Roster report does what R46, R47 and R50 say. -/
theorem State.reportDelivery_reports (s : State) (n : Nat) (t : Tally) (about : Option ExceptionEntry) :
    s.reports (s.reportDelivery n t about) n t.place about := by
  unfold State.reports
  intro u hlength
  have hu : u = (s.writeExceptionOf n about).tallied n t.place := by cases about <;> rfl
  have hreport : s.reportDelivery n t about = u.settleIfDone n := by
    rw [hu, State.reportDelivery, State.countTally_eq]
    cases about with
    | none => exact hlength
    | some e => exact State.writeException_tallies hlength
  rw [hreport]
  refine ⟨State.settleIfDone_of_live, fun k hk hstate hdead _ hrising hwf hbase => ?_⟩
  have hframe : u = { s with ram := u.ram, unit := { s.unit with tickets := u.unit.tickets } } :=
    hu ▸ s.reported_frame n t.place about
  have hhost : u.host = s.host := by rw [hframe]
  have hload : u.boardBase = s.boardBase := by rw [hframe]; rfl
  have hurising : rising u.unit.tickets = true := by
    rw [hu]
    refine State.tallied_tickets ?_
    cases about with
    | none => exact hrising
    | some e => exact State.writeException_tickets hrising n e
  have huwf : u.ram.wf = true := by
    rw [hu]
    refine State.tallied_wf ?_
    cases about with
    | none => exact hwf
    | some e => exact State.writeException_wf hwf n e
  rw [State.settleIfDone_of_done hk hstate hdead, ← hhost]
  exact ⟨State.settle_settles hk hurising huwf (by omega), State.settle_frame hk⟩

theorem State.settleIfDone_roster (s : State) (n : Nat) :
    (s.settleIfDone n).roster = s.roster ∧ (s.settleIfDone n).walk = s.walk := by
  unfold State.settleIfDone
  split
  · exact ⟨rfl, rfl⟩
  next k hk =>
    split
    · rw [State.settle_frame hk]
      exact ⟨rfl, rfl⟩
    · exact ⟨rfl, rfl⟩

theorem State.countTally_roster (s : State) (n : Nat) (t : Tally) :
    (s.countTally n t).roster = s.roster ∧ (s.countTally n t).walk = s.walk := by
  unfold State.countTally
  split <;> exact ⟨rfl, rfl⟩

theorem State.writeExceptionOf_roster (s : State) (n : Nat) (about : Option ExceptionEntry) :
    (s.writeExceptionOf n about).roster = s.roster ∧ (s.writeExceptionOf n about).walk = s.walk := by
  cases about with
  | none => exact ⟨rfl, rfl⟩
  | some e =>
    rw [State.writeExceptionOf, State.writeException_frame]
    exact ⟨rfl, rfl⟩

theorem State.reportDelivery_roster (s : State) (n : Nat) (t : Tally) (about : Option ExceptionEntry) :
    (s.reportDelivery n t about).roster = s.roster ∧ (s.reportDelivery n t about).walk = s.walk := by
  simp only [State.reportDelivery, State.settleIfDone_roster, State.countTally_roster, State.writeExceptionOf_roster,
    and_self]

/-! ## The closing of an entry (R122) -/

theorem Closing.tally_place (c : Closing) : c.tally.place = c.place := by cases c <;> rfl

theorem Closing.exception_eq (c : Closing) (version : BitVec 16) : c.exception version = c.reports version := by
  have hwide : ∀ v : BitVec 16, v.zeroExtend 32 = (0#16 ++ v : BitVec 32) := fun v => by
    apply BitVec.eq_of_toNat_eq
    rw [BitVec.toNat_append]
    simp
    omega
  cases c with
  | unconfirmed withdrawing => cases withdrawing <;> simp [Closing.exception, Closing.reports, hwide]
  | _ => simp [Closing.exception, Closing.reports, hwide]

theorem State.reportRoom_eq (s : State) : s.reportRoom = s.withWalk (s.walk.map Walk.hearsRoom) := by
  rfl

theorem State.reportTurnEnd_eq (s : State) (i : Nat) :
    s.reportTurnEnd i = s.withWalk (s.walk.map fun w => w.hearsTurnEnds [i]) := by
  refine congrArg s.withWalk (congrArg (Option.map · s.walk) (funext fun w => ?_))
  cases hphase : w.phase <;> simp [Walk.hearsTurnEnds, hphase]

/-- The last act of a removal (R122). -/
theorem State.closeEntry_closes (s : State) (e : Entry) (c : Closing) : s.closesEntry (s.closeEntry e c) e c := by
  have hreports := s.reportDelivery_reports e.owner c.tally
    ((c.reports e.version).map fun p => ⟨e.index, e.ident, p.1, none, p.2⟩)
  obtain ⟨hroster, hwalk⟩ := s.reportDelivery_roster e.owner c.tally
    ((c.reports e.version).map fun p => ⟨e.index, e.ident, p.1, none, p.2⟩)
  rw [c.tally_place] at hreports
  refine ⟨_, hreports, ?_⟩
  rw [State.closeEntry, State.finishCancel_eq, c.exception_eq, State.reportTurnEnd_eq, State.reportRoom_eq]
  refine congrArg State.endsCancel ?_
  rw [← hroster, ← hwalk]
  simp only [State.withWalk, State.removeEntry, State.onRoster, Option.map_map]
  rfl

/-! ## The last write of a removal is answered (R121, R122) -/

theorem State.deliver_delivery {s : State} {q : Request} (hq : q.purpose = .deliveryState) (a : Answer)
    (ident : BitVec 24) : s.deliver q a ident = s.deliveryWritten q.index := by
  cases a <;> simp [State.deliver, hq]

theorem State.deliveryWritten_of_removing {s : State} {i : Nat} {e : Entry} {c : Closing} (he : s.entry i = some e)
    (hturn : e.turn = none) (hremoving : e.removing = some c) : s.deliveryWritten i = s.closeEntry e c := by
  simp [State.deliveryWritten, he, hturn, hremoving]

theorem State.endTurn_of_closes {s : State} {i : Nat} {e : Entry} {c : Closing} {wb : WriteBack} (he : s.entry i = some e)
    (hturn : e.turn = some (.writingBack wb)) (hafter : wb.after = .closes c) : s.endTurn i = s.closeEntry e c := by
  simp [State.endTurn, State.writeBackOf, he, hturn, hafter]

theorem State.deliveryWritten_of_turn {s : State} {i : Nat} {e : Entry} {wb : WriteBack} (he : s.entry i = some e)
    (hturn : e.turn = some (.writingBack wb)) : s.deliveryWritten i = s.endTurn i := by
  simp [State.deliveryWritten, he, hturn]

/-- A Q2 whose primary price reads 0 ends the turn without a write of Q1 (R122). -/
theorem State.confirmRead_of_empty {s : State} {i : Nat} {e : Entry} {wb : WriteBack} (he : s.entry i = some e)
    (hturn : e.turn = some (.writingBack wb)) {ws : List Word} (hempty : (ws.getD 8 0#32).extractLsb' 0 24 = 0#24)
    (known : Bool) : s.confirmRead i ws known = s.endTurn i := by
  have hprimary : (confirmImage i ws known).primary = 0 := by
    simp only [confirmImage, imageRead, priceRead, recordWord, bitsOf, hempty]
    rfl
  simp [State.confirmRead, State.writeBackOf, he, hturn, hprimary]

end Sys2Proof.Machine
end

section
namespace Sys2Proof.Machine

/-! ## CANCEL and expiry of a QUEUED ticket (R50, R51, R52) -/

theorem State.cancelHeld_of_queued {s : State} {n : Nat} {k : Ticket} (h : k.state = .queued) :
    s.cancelHeld n k = ((s.setTicket n (k.withOutcome .cancelled)).settle n).giveResult .done := by
  simp [State.cancelHeld, h]

theorem State.expireTicket_of_queued {s : State} {n : Nat} {k : Ticket} (h : k.state = .queued) :
    s.expireTicket n k =
      (s.setTicket n (({ k with expired := true, expiryDue := false } : Ticket).withOutcome .expired)).settle n := by
  simp [State.expireTicket, h, State.setTicket, State.onUnit]

end Sys2Proof.Machine
namespace Sys2Proof.Tickets
open Sys2Proof.Machine

/-- Settles O18: a QUEUED ticket settles with the outcome it takes, and the answer that ends a removal closes its entry. -/
theorem queuedTicketsSettleAtOnce : Obligations.QueuedTicketsSettleAtOnce := by
  refine ⟨fun s n k hn hk hqueued hrising hwf hbase => ?_, fun s i e c q ws qs ident he hq => ?_⟩
  · have hb : s.boardBase % 4 = 0 := by omega
    refine ⟨fun hactive hrun => ⟨_, exec_cancel hn hactive hrun, ?_⟩,
      fun hdue hnot => ⟨_, exec_ticketExpiry hn hk hdue hnot, ?_⟩⟩
    · rw [State.cancelTicket_of_held (s := s.nameCommand 6#4) hk, State.cancelHeld_of_queued hqueued]
      refine ⟨State.setTicket_settle_settles (s := s.nameCommand 6#4) (stop := none) (fun _ _ _ => rfl) rfl rfl (by simp)
        hrising hwf hb, ?_⟩
      rw [State.settle_frame (State.setTicket_ticket_self _ n _)]
      rfl
    · rw [State.expireTicket_of_queued hqueued]
      refine ⟨State.setTicket_settle_settles (fun _ _ _ => rfl) rfl rfl (by simp) hrising hwf hb, ?_⟩
      rw [State.settle_frame (State.setTicket_ticket_self _ n _)]
      rfl
  · subst hq
    have hcloses := s.closeEntry_closes e c
    refine ⟨fun hturn hremoving hpurpose => ?_, fun wb hturn hafter => ⟨fun hpurpose => ?_, fun hpurpose => ?_,
      fun hpurpose => ?_⟩⟩
    · simp only [State.deliver_delivery hpurpose, State.deliveryWritten_of_removing he hturn hremoving]
      exact ⟨hcloses, hcloses⟩
    · simp only [State.deliver_delivery hpurpose, State.deliveryWritten_of_turn he hturn,
        State.endTurn_of_closes he hturn hafter]
      exact ⟨hcloses, hcloses⟩
    · simp only [State.deliver, hpurpose]
      refine ⟨?_, fun hempty => ?_⟩
      · rw [State.endTurn_of_closes he hturn hafter]
        exact hcloses
      · rw [State.confirmRead_of_empty he hturn hempty, State.endTurn_of_closes he hturn hafter]
        exact hcloses
    · simp only [State.deliver, hpurpose, State.endTurn_of_closes he hturn hafter]
      exact hcloses

end Sys2Proof.Tickets
end

section
/-! Sweeps of the board, and the expiry and the CANCEL of a held ticket by its state (R35 to R37, R51, R52). -/

namespace Sys2Proof.Machine

/-! ## Sweeps (R35, R36, R37) -/

theorem State.sweepsStart_iff (s : State) :
    s.sweepsStart = true ↔ s.host.runState = .running ∧ s.host.active ≠ some .halt := s.walkerRuns_iff

/-- The end of a sweep, or the start of the one asked for meanwhile (R35). -/
theorem State.endSweep_eq (s : State) :
    s.endSweep =
      { s with unit :=
          if s.unit.sweepPending = true ∧ s.host.runState = .running ∧ s.host.active ≠ some .halt then
            { s.unit with sweepActive := true, sweepPending := false, sweepTimer := some 0 }
          else { s.unit with sweepActive := false, sweepPending := false } } := by
  simp only [State.endSweep, Bool.and_eq_true, State.sweepsStart_iff]
  split <;> rfl

theorem exec_sweep {s : State} (h : s.unit.sweepActive = true) : exec .sweep s = .next s.sweepBoard.endSweep := by
  simp [exec, execSweep, h]

theorem State.sweepSlot_of_faulty {s : State} {n : Nat} (h : s.ticketFaulty n 0 = true) :
    s.sweepSlot n = { s with host := { s.host with attention := s.host.attention ||| 0x018#9 } } := by
  rw [State.sweepSlot, if_pos h]
  simp only [State.latch, State.onHost, BitVec.or_assoc]
  rfl

theorem State.sweepSlot_of_unheld {s : State} {n : Nat} (hgood : s.ticketFaulty n 0 = false) (hnone : s.ticket n = none) :
    s.sweepSlot n = s.sweepUnheld n (s.ticketWord n 0) := by
  simp [State.sweepSlot, hgood, hnone]

theorem State.sweepSlot_of_held {s : State} {n : Nat} {k : Ticket} (hgood : s.ticketFaulty n 0 = false)
    (hk : s.ticket n = some k) : s.sweepSlot n = s.sweepHeld n k (s.ticketWord n 0) := by
  simp [State.sweepSlot, hgood, hk]

/-- The words of `slotAgrees` at a slot that is not held. -/
theorem State.slotAgrees_of_unheld {s : State} {n : Nat} (hnone : s.ticket n = none) :
    s.slotAgrees n ↔ s.ticketFaulty n 0 = false ∧ (s.ticketWord n 0 = 0#32 ∨ s.ticketWord n 0 = 5#32) := by
  simp [State.slotAgrees, hnone]

/-- The words of `slotAgrees` at a slot that is held. -/
theorem State.slotAgrees_of_held {s : State} {n : Nat} {k : Ticket} (hk : s.ticket n = some k) :
    s.slotAgrees n ↔ s.ticketFaulty n 0 = false ∧ s.ticketWord n 0 = k.state.word := by
  simp [State.slotAgrees, hk]

theorem State.sweepSlot_of_agrees {s : State} {n : Nat} (h : s.slotAgrees n) : s.sweepSlot n = s := by
  cases hk : s.ticket n with
  | none =>
    obtain ⟨hgood, hword⟩ := (State.slotAgrees_of_unheld hk).mp h
    rw [State.sweepSlot_of_unheld hgood hk, State.sweepUnheld, if_pos]
    exact hword
  | some k =>
    obtain ⟨hgood, hword⟩ := (State.slotAgrees_of_held hk).mp h
    rw [State.sweepSlot_of_held hgood hk, State.sweepHeld, if_pos]
    rw [hword, ContextState.handoff_eq]

/-- A word that no unheld slot can have is left, and latches BOARD_CLASH (R36). -/
theorem State.sweepSlot_of_clash {s : State} {n : Nat} (hgood : s.ticketFaulty n 0 = false) (hnone : s.ticket n = none)
    (hclash : ¬ s.slotAgrees n) (hposted : s.ticketWord n 0 ≠ 1#32) :
    s.sweepSlot n = { s with host := { s.host with attention := s.host.attention ||| 0x008#9 } } := by
  rw [State.slotAgrees_of_unheld hnone] at hclash
  rw [State.sweepSlot_of_unheld hgood hnone, State.sweepUnheld, if_neg (by exact fun hword => hclash ⟨hgood, hword⟩),
    if_neg (by exact hposted)]
  rfl

/-- A held slot's word that its context does not expect is rewritten, and latches BOARD_CLASH (R37). -/
theorem State.sweepSlot_of_repair {s : State} {n : Nat} {k : Ticket} (hgood : s.ticketFaulty n 0 = false)
    (hk : s.ticket n = some k) (hclash : ¬ s.slotAgrees n) :
    s.sweepSlot n =
      { s with
        ram := s.ram.setWord (s.ticketOffset n 0) k.state.word
        host := { s.host with attention := s.host.attention ||| 0x008#9 } } := by
  rw [State.slotAgrees_of_held hk, ← ContextState.handoff_eq] at hclash
  rw [State.sweepSlot_of_held hgood hk, State.sweepHeld, if_neg fun hword => hclash ⟨hgood, hword⟩,
    ContextState.handoff_eq]
  rfl

theorem State.foldl_sweepSlot_of_agrees {s : State} {l : List Nat} (h : ∀ n ∈ l, s.slotAgrees n) :
    l.foldl State.sweepSlot s = s := by
  induction l with
  | nil => rfl
  | cons n rest ih =>
    rw [List.forall_mem_cons] at h
    rw [List.foldl_cons, State.sweepSlot_of_agrees h.1, ih h.2]

/-! ## Expiry and CANCEL of a held ticket (R51, R52) -/

theorem State.setTicket_expireEntries {s : State} (h : s.oneEntryEach = true) (n : Nat) (k : Ticket) :
    (s.setTicket n k).expireEntries n = (s.setTicket n k).expiresEntries n :=
  State.expireEntries_eq (s := s.setTicket n k) (State.indexes_nodup h) n

theorem State.setTicket_cancelEntries {s : State} (h : s.oneEntryEach = true) (n : Nat) (k : Ticket) :
    (s.setTicket n k).cancelEntries n = (s.setTicket n k).cancelsEntries n :=
  State.cancelEntries_eq (s := s.setTicket n k) (State.indexes_nodup h) n

/-- The state with another context in a slot. -/
theorem State.setTicket_eq (s : State) (n : Nat) (k : Ticket) :
    s.setTicket n k = { s with unit := { s.unit with tickets := assocPut n k s.unit.tickets } } := rfl

theorem State.setTicket_setTicket (s : State) (n : Nat) (j k : Ticket) :
    (s.setTicket n j).setTicket n k = s.setTicket n k := by
  simp [State.setTicket_eq]

/-- A card is in progress: the walker waits for a read or a write of its record. -/
theorem WalkPhase.endsAtOnce_eq_false_iff (p : WalkPhase) :
    p.endsAtOnce = false ↔ (∃ app, p = .reading app) ∨ (∃ app st, p = .writing app st) ∨ ∃ c m, p = .iterating c m := by
  cases p <;> simp [WalkPhase.endsAtOnce]

theorem WalkPhase.endsAtOnce_iff (p : WalkPhase) :
    p.endsAtOnce = true ↔ p = .ready ∨ (∃ app r, p = .roomStall app r) ∨ ∃ app r, p = .turnStall app r := by
  cases p <;> simp [WalkPhase.endsAtOnce]

theorem State.requestWalkEnd_of_card {s : State} {w : Walk} (hw : s.walk = some w) (h : w.phase.endsAtOnce = false)
    (o : TicketOutcome) : s.requestWalkEnd o = s.withWalk (some { w with endRequest := some o }) := by
  simp [State.requestWalkEnd, hw, h, State.changeWalk]

theorem State.requestWalkEnd_of_rest {s : State} {w : Walk} (hw : s.walk = some w) (h : w.phase.endsAtOnce = true)
    (o : TicketOutcome) : s.requestWalkEnd o = s.endWalk o .none none := by
  simp [State.requestWalkEnd, hw, h]

/-- The ticket whose expiry has been taken. -/
def Ticket.afterExpiry (k : Ticket) : Ticket := { k with expired := true, expiryDue := false }

/-- The expiry of a DELIVERING ticket: its outcome, unless it was cancelled, and its entries (R51). -/
theorem State.expireTicket_of_delivering {s : State} {n : Nat} {k : Ticket} (hk : k.state = .delivering)
    (h : s.oneEntryEach = true) :
    s.expireTicket n k =
      ((s.setTicket n (if k.cancelled then k.afterExpiry else k.afterExpiry.withOutcome .expired)).expiresEntries
        n).endsCancel := by
  have hacts : s.expireTicket n k =
      ((if k.cancelled then s.setTicket n k.afterExpiry
        else (s.setTicket n k.afterExpiry).setTicket n (k.afterExpiry.withOutcome .expired)).expireEntries
          n).finishCancel := by
    cases k
    subst hk
    rfl
  rw [hacts, State.setTicket_setTicket, ← apply_ite (s.setTicket n), State.setTicket_expireEntries h,
    State.finishCancel_eq]

theorem State.expireTicket_of_walking {s : State} {n : Nat} {k : Ticket} (hk : k.state = .walking) :
    s.expireTicket n k =
      if k.cancelled then s.setTicket n k.afterExpiry else (s.setTicket n k.afterExpiry).requestWalkEnd .expired := by
  cases k
  subst hk
  rfl

theorem State.expireTicket_of_parked {s : State} {n : Nat} {k : Ticket} (hk : k.state = .parked) :
    s.expireTicket n k = (s.setTicket n k.afterExpiry).endTicketWalk n .expired .none none := by
  cases k
  subst hk
  rfl

/-- The ticket of slot n marked cancelled, with CANCEL in progress. -/
def State.cancelMarked (s : State) (n : Nat) (k : Ticket) : State :=
  (s.setTicket n { k with cancelled := true }).beginCommand (.cancel n)

theorem State.cancelHeld_of_over {s : State} {n : Nat} {k : Ticket}
    (h : k.expired = true ∧ k.state ≠ .queued ∨ k.cancelled = true ∧ k.state = .delivering) :
    s.cancelHeld n k = s.giveResult .done := by
  rcases h with ⟨hexpired, hstate⟩ | ⟨hcancelled, hstate⟩
  · cases hk : k.state <;> simp_all [State.cancelHeld]
  · simp [State.cancelHeld, hstate, hcancelled]

theorem State.cancelHeld_of_walking {s : State} {n : Nat} {k : Ticket} (hk : k.state = .walking)
    (hnot : k.expired = false) :
    s.cancelHeld n k = ((s.cancelMarked n k).requestWalkEnd .cancelled).finishCancel := by
  simp [State.cancelHeld, hk, hnot, State.cancelMarked]

theorem State.cancelHeld_of_parked {s : State} {n : Nat} {k : Ticket} (hk : k.state = .parked)
    (hnot : k.expired = false) :
    s.cancelHeld n k = (s.cancelMarked n k).endTicketWalk n .cancelled .none none := by
  simp [State.cancelHeld, hk, hnot, State.cancelMarked]

theorem State.cancelHeld_of_delivering {s : State} {n : Nat} {k : Ticket} (hk : k.state = .delivering)
    (hnot : k.expired = false) (hnew : k.cancelled = false) (h : s.oneEntryEach = true) :
    s.cancelHeld n k =
      (((s.cancelMarked n k).setTicket n { k.withOutcome .cancelled with cancelled := true }).cancelsEntries
        n).endsCancel := by
  rw [← State.setTicket_cancelEntries (s := s.cancelMarked n k) h, ← State.finishCancel_eq]
  cases k
  subst hk hnot hnew
  rfl

end Sys2Proof.Machine

namespace Sys2Proof.Tickets
open Sys2Proof.Machine

/-- Settles O24: the arbiter after the fold of the slot acts, and the act at each kind of slot. -/
theorem sweepsReadTheBoard : Obligations.SweepsReadTheBoard := by
  refine ⟨fun s hactive => ⟨_, State.arbitrates_arbitrate _, ?_⟩, fun s hactive hagrees hrest => ?_, fun s n _ =>
    ⟨State.sweepSlot_of_faulty, State.sweepSlot_of_agrees, State.sweepSlot_of_clash,
      fun _ => State.sweepSlot_of_repair⟩⟩
  · rw [exec_sweep hactive, State.sweepBoard, State.endSweep_eq]
  · have hboard : s.sweepBoard = s := by
      rw [State.sweepBoard, State.foldl_sweepSlot_of_agrees fun n hn => hagrees n (List.mem_range.mp hn)]
      exact State.arbitrateUpTo_of_rest (hrest.imp_right .inr) 33
    rw [exec_sweep hactive, hboard, State.endSweep_eq]

/-- Settles O29: the expiry and the CANCEL of each state of a held ticket, and the end of a walk where one ends. -/
theorem expiryReachesEveryEntry : Obligations.ExpiryReachesEveryEntry := by
  refine ⟨fun s n k hn hk hdue hnot => ?expiry, fun s n k hn hk hactive hrun => ?cancel⟩
  case expiry =>
    intro expiry x held
    have hexec : expiry = .next (s.expireTicket n k) := exec_ticketExpiry hn hk hdue hnot
    refine ⟨fun hstate hone => ?_, fun hstate hcancelled => ?_, fun w hstate hcancelled hw hslot => ⟨fun hcard => ?_,
      fun hrest => ⟨_, hexec, ?_⟩⟩, fun hstate => ⟨_, hexec, fun hmay => ?_⟩⟩
    · rw [hexec, State.expireTicket_of_delivering hstate hone]
      rfl
    · rw [hexec, State.expireTicket_of_walking hstate, if_pos hcancelled]
      rfl
    · rw [hexec, State.expireTicket_of_walking hstate, if_neg (by simp [hcancelled]),
        State.requestWalkEnd_of_card (s := s.setTicket n k.afterExpiry) hw
          ((WalkPhase.endsAtOnce_eq_false_iff _).mpr hcard)]
      rfl
    · rw [State.expireTicket_of_walking hstate, if_neg (by simp [hcancelled]),
        State.requestWalkEnd_of_rest (s := s.setTicket n k.afterExpiry) hw ((WalkPhase.endsAtOnce_iff _).mpr hrest)]
      exact State.endWalk_walkStops (s := held x) hw .expired .none none
    · rw [State.expireTicket_of_parked hstate]
      exact State.endTicketWalk_of_held hmay .expired .none none
  case cancel =>
    intro cancel named x marked
    have hexec : cancel = .next ((s.nameCommand 6#4).cancelHeld n k) := by
      rw [← State.cancelTicket_of_held (s := s.nameCommand 6#4) hk]
      exact exec_cancel hn hactive hrun
    refine ⟨fun hover => ?_, fun w hstate hnot hw hslot => ⟨fun hcard => ?_, fun hrest => ⟨_, hexec, ?_⟩⟩,
      fun hstate hnot => ⟨_, hexec, fun hmay => ?_⟩, fun hstate hnot hnew hone => ?_⟩
    · rw [hexec, State.cancelHeld_of_over hover]
      rfl
    · rw [hexec, State.cancelHeld_of_walking hstate hnot,
        State.requestWalkEnd_of_card (s := (s.nameCommand 6#4).cancelMarked n k) hw
          ((WalkPhase.endsAtOnce_eq_false_iff _).mpr hcard),
        State.finishCancel_of_waits]
      · rfl
      · intro m hm
        obtain rfl : n = m := by simpa [State.cancelMarked, State.beginCommand, State.onHost, State.withWalk] using hm
        exact .inl (by simp [State.withWalk, hslot])
    · rw [State.cancelHeld_of_walking hstate hnot,
        State.requestWalkEnd_of_rest (s := (s.nameCommand 6#4).cancelMarked n k) hw ((WalkPhase.endsAtOnce_iff _).mpr hrest)]
      exact State.endWalk_finishCancel_walkStops (s := marked x) hw .cancelled .none none
    · rw [State.cancelHeld_of_parked hstate hnot]
      exact State.endTicketWalk_of_held hmay .cancelled .none none
    · rw [hexec, State.cancelHeld_of_delivering (s := s.nameCommand 6#4) hstate hnot hnew hone]
      simp only [State.cancelMarked, State.beginCommand, State.setTicket_eq, State.onHost, assocPut_put]
      rfl

end Sys2Proof.Tickets
end

section
/-! POSTED tickets: the checks, the act at a POSTED slot, and what parking writes (R38, R39,
R43, R59, R60). -/

namespace Sys2Proof.Machine

/-! ## Links and areas under a load (R59, R60, R179) -/

theorem State.meetsFixed_eq {s : State} {l : Load} (hl : s.load = some l) (a la : Nat) :
    s.meetsFixed a la = l.meets a la := by
  simp [State.meetsFixed, hl, Load.meetsFixed, Load.meets, areasMeet, Bool.decide_and]

theorem State.cardTarget_eq {s : State} {l : Load} (hl : s.load = some l) (number : Nat) :
    s.cardTarget number =
      if 131072 ≤ number ∨ l.meets (32 * number) 32 = true then .bad else .card number := by
  rw [State.cardTarget, State.meetsFixed_eq hl]
  by_cases hbeyond : 131072 ≤ number
  · rw [if_pos (by exact hbeyond), if_pos (.inl hbeyond)]
  · rw [if_neg (by exact hbeyond)]
    simp [hbeyond]

theorem extractLsb'_low (w : Word) {m lo len : Nat} (h : lo + len ≤ m) :
    (w.extractLsb' 0 m).extractLsb' lo len = w.extractLsb' lo len := by
  ext i hi
  simp only [BitVec.getElem_extractLsb', BitVec.getLsbD_extractLsb', Nat.zero_add,
    decide_eq_true (show lo + i < m by omega), Bool.true_and]

/-- What a link of the model leads to, by the bits of its word. -/
theorem State.resolveLink_eq {s : State} {l : Load} (hl : s.load = some l) (base : Nat) (link : Word) :
    s.resolveLink base (linkOfWord link) = l.leads base link := by
  have hform : (link.extractLsb' 17 2).toNat < 4 := (link.extractLsb' 17 2).isLt
  simp only [linkOfWord, linkOfBits, extractLsb'_low link (show 17 + 2 ≤ 19 by decide),
    extractLsb'_low link (show 0 + 16 ≤ 19 by decide), extractLsb'_low link (show 0 + 17 ≤ 19 by decide), Load.leads]
  obtain h | h | h | h : (link.extractLsb' 17 2).toNat = 0 ∨ (link.extractLsb' 17 2).toNat = 1
      ∨ (link.extractLsb' 17 2).toNat = 2 ∨ (link.extractLsb' 17 2).toNat = 3 := by omega
  · simp [State.resolveLink, h]
  · simp [State.resolveLink, State.cardTarget_eq hl, h]
  · simp [State.resolveLink, State.cardTarget_eq hl, h]
  · simp [State.resolveLink, h]

/-! ## The checks of a POSTED ticket (R38) -/

theorem State.listAccepted_eq_false_iff {s : State} {l : Load} (hl : s.load = some l) (f : TicketFields) :
    s.listAccepted f = false ↔
      f.listCapacity ≠ 0 ∧ (4095 < f.listCapacity ∨ f.listAddress % 16 ≠ 0
        ∨ 4194304 < f.listAddress + 16 * f.listCapacity ∨ l.meets f.listAddress (16 * f.listCapacity) = true) := by
  rw [← Bool.not_eq_true]
  simp only [State.listAccepted, State.meetsFixed_eq hl, Bool.or_eq_true, Bool.and_eq_true, beq_iff_eq,
    decide_eq_true_eq, Bool.not_eq_true', not_or, not_and_or, Nat.not_le, Bool.not_eq_false, or_assoc]
  rfl

theorem TicketFields.timesAccepted_eq_false_iff (f : TicketFields) :
    f.timesAccepted = false ↔ f.activation ≠ 0#32 ∧ f.deadline ≠ 0#32 ∧ f.deadline.toNat < f.activation.toNat := by
  simp [TicketFields.timesAccepted, and_assoc]

theorem State.ticketFault_eq {s : State} {l : Load} (hl : s.load = some l) (f : TicketFields) {link : Word}
    (hlink : f.firstLink = linkOfWord link) :
    s.ticketFault f =
      if 2 ≤ f.classCode then some .badClass
      else if f.chainBase % 32 ≠ 0 ∨ 4194304 ≤ f.chainBase then some .badChain
      else if f.cardLimit = 0 then some .badLimit
      else if l.leads f.chainBase link = .bad then some .badLink
      else if f.listCapacity ≠ 0 ∧ (4095 < f.listCapacity ∨ f.listAddress % 16 ≠ 0
        ∨ 4194304 < f.listAddress + 16 * f.listCapacity ∨ l.meets f.listAddress (16 * f.listCapacity) = true)
        then some .badList
      else if f.activation ≠ 0#32 ∧ f.deadline ≠ 0#32 ∧ f.deadline.toNat < f.activation.toNat then some .badTimes
      else none := by
  simp only [State.ticketFault, hlink, State.resolveLink_eq hl, Bool.not_eq_true', State.listAccepted_eq_false_iff hl,
    TicketFields.timesAccepted_eq_false_iff]
  rfl

/-- The host's fields of a slot can be read (R38). -/
theorem State.hostFields_readable_iff (s : State) (n : Nat) :
    (hostFieldOffsets.any fun off => s.ticketFaulty n off) = false ↔
      ∀ off ∈ ([4, 92, 96, 100, 104, 108, 112, 116] : List Nat), s.ticketFaulty n off = false := by
  rw [List.any_eq_false]
  simp only [Bool.not_eq_true]
  rfl

theorem deadlineReached_iff (deadline now : Word) :
    deadlineReached deadline now = true ↔ deadline ≠ 0#32 ∧ deadline.toNat ≤ now.toNat := by
  simp [deadlineReached]

/-! ## The act at a POSTED slot (R38, R39) -/

theorem State.sweepSlot_of_posted {s : State} {n : Nat} (hgood : s.ticketFaulty n 0 = false) (hnone : s.ticket n = none)
    (hposted : s.ticketWord n 0 = 1#32) : s.sweepSlot n = s.takeTicket n := by
  rw [State.sweepSlot_of_unheld hgood hnone, State.sweepUnheld, hposted]
  rfl

theorem State.takeTicket_of_unreadable {s : State} {n : Nat}
    (h : (hostFieldOffsets.any fun off => s.ticketFaulty n off) = true) :
    s.takeTicket n = (s.latch .memoryFault).settleUnheld n .malformed .memory := by
  rw [State.takeTicket, if_pos h]

theorem State.takeTicket_of_fault {s : State} {n : Nat}
    (h : (hostFieldOffsets.any fun off => s.ticketFaulty n off) = false) {r : Reason}
    (hfault : s.ticketFault (s.readTicket n) = some r) : s.takeTicket n = s.settleUnheld n .malformed r := by
  simp [State.takeTicket, h, hfault]

theorem State.takeTicket_of_expired {s : State} {n : Nat}
    (h : (hostFieldOffsets.any fun off => s.ticketFaulty n off) = false)
    (hfault : s.ticketFault (s.readTicket n) = none)
    (hdue : deadlineReached (s.readTicket n).deadline s.time.storeTime = true) :
    s.takeTicket n = s.settleUnheld n .expired .none := by
  simp [State.takeTicket, h, hfault, hdue]

/-- The ticket of a slot taken QUEUED, its counts 0 (R39). -/
def State.taken (s : State) (n : Nat) (k : Ticket) : State :=
  (s.setTicket n k).putFields n (tallyFields (fun _ => 0#32) ++ [(8, 0#32), (16, 0#32)])

theorem State.takeTicket_of_accepted {s : State} {n : Nat}
    (h : (hostFieldOffsets.any fun off => s.ticketFaulty n off) = false)
    (hfault : s.ticketFault (s.readTicket n) = none)
    (hdue : deadlineReached (s.readTicket n).deadline s.time.storeTime = false) :
    s.takeTicket n = (s.taken n (s.readTicket n).context).afterTaking (s.readTicket n).context := by
  simp [State.takeTicket, h, hfault, hdue, State.zeroTallies_eq, State.taken]

theorem State.taken_frame (s : State) (n : Nat) (k : Ticket) :
    s.taken n k =
      { s with ram := (s.taken n k).ram, unit := { s.unit with tickets := assocPut n k s.unit.tickets } } := rfl

/-- The record of a ticket taken: the counts 0, the handoff word, the outcome and the stop card as they were. -/
theorem State.taken_words {s : State} (h : s.ram.wf = true) (hb : s.boardBase % 4 = 0) (n : Nat) (k : Ticket) :
    s.zeroed (s.taken n k) n
      ∧ ∀ off ∈ ([0, 12, 20] : List Nat), (s.taken n k).ticketWord n off = s.ticketWord n off := by
  have hplaces : ((tallyFields (fun _ => 0#32) ++ [((8 : Nat), 0#32), (16, 0#32)]).map fun q => q.1 / 4).Nodup := by
    simp [tallyFields, Tally.all, Tally.offset, Tally.place]
  have hput : ∀ {off : Nat} {w : Word}, (off, w) ∈ tallyFields (fun _ => 0#32) ++ [(8, 0#32), (16, 0#32)] →
      (s.taken n k).ticketWord n off = w := fun hmem =>
    State.ticketWord_putFields_of_mem (s := s.setTicket n k) h hb hplaces hmem
  have hplace : ∀ q ∈ tallyFields (fun _ => 0#32) ++ [((8 : Nat), 0#32), (16, 0#32)],
      24 ≤ q.1 ∧ q.1 < 92 ∨ q.1 = 8 ∨ q.1 = 16 := by
    intro q hq
    rcases List.mem_append.mp hq with hq | hq
    · exact .inl (offset_of_mem_tallyFields hq)
    · simp only [List.mem_cons, List.not_mem_nil, or_false] at hq
      rcases hq with rfl | rfl <;> simp
  have hkeep : ∀ off ∈ ([4, 0, 12, 20] : List Nat), (s.taken n k).ticketWord n off = s.ticketWord n off := by
    intro off hoff
    refine State.ticketWord_putFields_of_ne (s := s.setTicket n k) h hb fun q hq => ?_
    have hq := hplace q hq
    have hoffs : off = 4 ∨ off = 0 ∨ off = 12 ∨ off = 20 := by simpa using hoff
    omega
  refine ⟨⟨hkeep 4 (by simp), hput (by simp), hput (by simp),
    fun j hj => hput (List.mem_append_left _ (zero_mem_tallyFields hj)), fun x hx => ?_⟩,
    fun off hoff => hkeep off (List.mem_cons_of_mem _ hoff)⟩
  refine State.byte_putFields (s := s.setTicket n k) h hb (fun q hq => ?_) hx
  have hq := hplace q hq
  omega

theorem State.taken_ticket_self (s : State) (n : Nat) (k : Ticket) : (s.taken n k).ticket n = some k :=
  s.setTicket_ticket_self n k

theorem State.taken_ticket_ne (s : State) {n m : Nat} (hm : m ≠ n) (k : Ticket) :
    (s.taken n k).ticket m = s.ticket m := s.setTicket_ticket_ne hm k

/-- A settlement of a ticket not held, with the causes it latches. -/
theorem State.settleUnheld_spec {s : State} (h : s.ram.wf = true) (hb : s.boardBase % 4 = 0) (n : Nat)
    (o : TicketOutcome) (r : Reason) (causes : BitVec 9) :
    let t := ({ s with host := { s.host with attention := s.host.attention ||| causes } } : State).settleUnheld n o r
    s.zeroed t n ∧ t.ticketWord n 0 = 5#32 ∧ t.ticketWord n 12 = (0#16 ++ r.number ++ o.number : BitVec 32)
      ∧ t.ticketWord n 20 = 0xFFFFFFFF#32
      ∧ t = { s with
          ram := t.ram, host := { s.host with attention := s.host.attention ||| (causes ||| 0x004#9) } } := by
  intro t
  have ht : t = (({ s with host := { s.host with attention := s.host.attention ||| causes } } : State).putFields n
      (unheldFields o r)).latch .settled := State.settleUnheld_eq _ n o r
  obtain ⟨hzeroed, hword, houtcome, hstop⟩ := State.putFields_unheld h hb n o r
  rw [ht]
  refine ⟨hzeroed, hword, houtcome, hstop, ?_⟩
  rw [← BitVec.or_assoc]
  rfl

/-! ## Parking (R42, R43, R71) -/

theorem Ram.setFields_tallies (m : Ram) (p : Nat) (k : Ticket) :
    m.setFields p (tallyFields k.tally) =
      (List.range 17).foldl (fun m j => m.setWord (p + (24 + 4 * j)) (k.count j)) m := by
  rw [show List.range 17 = Tally.all.map Tally.place from rfl, List.foldl_map, Ram.setFields, tallyFields,
    List.foldl_map]
  rfl

theorem Walk.resumeWords_length (w : Walk) : w.resumeWords.length = 8 := by
  cases hspan : w.span <;> simp [Walk.resumeWords, hspan]

/-- Parking frees the walker, and the arbiter chooses (R43). -/
theorem State.park_eq {s : State} {w : Walk} {k : Ticket} (hw : s.walk = some w) (hk : s.ticket w.slot = some k) :
    s.park = (s.parksWalk w k).arbitrate := by
  simp only [State.park, hw, hk]
  refine congrArg State.arbitrate ?_
  rw [State.putTallies_eq]
  simp only [State.putFields_eq, Ram.setFields_tallies, Ram.setWords_eq_foldl, w.resumeWords_length, State.onRam]
  simp only [State.parksWalk, State.putTicketWord, State.putWord, State.onRam, State.setTicket_eq, State.withWalk,
    State.ticketOffset, State.boardBase, Nat.add_assoc]
  rfl

end Sys2Proof.Machine
end

section
/-! The parking that an URGENT ticket asks for, and what becomes of a POSTED slot (R38, R39, R42, R43, R63, R71). -/

namespace Sys2Proof.Machine

theorem Walk.stopsInRoom_eq (w : Walk) :
    w.stopsInRoom = { w with link := w.cardLink, next := .repeatCard, fresh := false, phase := .ready } := by
  cases hspan : w.span <;> simp [Walk.stopsInRoom, Walk.cardLink, hspan]

/-- A walk that holds a parking request (R42). -/
def State.asksParking (s : State) (w : Walk) : State := { s with walk := some { w with parkRequest := true } }

theorem State.changeWalk_parkRequest {s : State} {w : Walk} (hw : s.walk = some w) :
    s.changeWalk (fun w => { w with parkRequest := true }) = s.asksParking w := by
  simp [State.changeWalk, State.withWalk, State.asksParking, hw]

/-- The request for parking changes nothing of the walk that its resume area holds. -/
theorem State.asksParking_parksWalk (s : State) (w : Walk) (k : Ticket) :
    (s.asksParking w).parksWalk { w with parkRequest := true } k = s.parksWalk w k := rfl

theorem State.afterTaking_of_not_asked {s : State} {k : Ticket}
    (h : k.cls = .urgent → ∀ w j, s.walk = some w → s.ticket w.slot = some j → j.cls ≠ .overnight) :
    s.afterTaking k = s := by
  refine if_neg fun hasks => ?_
  obtain ⟨hurgent, hovernight⟩ := (Bool.and_eq_true _ _).mp hasks
  obtain ⟨hwalking, hovernight⟩ := (Bool.and_eq_true _ _).mp hovernight
  obtain ⟨w, hw⟩ := Option.isSome_iff_exists.mp hwalking
  obtain ⟨j, hj, hcls⟩ := (Option.any_eq_true _ _).mp hovernight
  exact h (beq_iff_eq.mp hurgent) w j hw (by simpa [State.walkTicket, State.walkSlot, hw] using hj) (beq_iff_eq.mp hcls)

theorem State.afterTaking_of_asked {s : State} {k j : Ticket} {w : Walk} (hurgent : k.cls = .urgent)
    (hw : s.walk = some w) (hj : s.ticket w.slot = some j) (hovernight : j.cls = .overnight) :
    s.afterTaking k = s.requestParking := by
  refine if_pos ?_
  simp [State.overnightWalking, State.walkTicket, State.walkSlot, hw, hj, hurgent, hovernight]

/-- Before a walk's first card and while one is in work, the request waits for the next boundary (R42; logs 18, 41). -/
theorem State.requestParking_of_card {s : State} {w : Walk} (hw : s.walk = some w)
    (h : (∃ app r, w.phase = .turnStall app r) ∨ (∃ app, w.phase = .reading app) ∨ (∃ app st, w.phase = .writing app st)
      ∨ (∃ c m, w.phase = .iterating c m) ∨ w.phase = .ready ∧ w.fresh = true) :
    s.requestParking = s.asksParking w := by
  have hasked := State.changeWalk_parkRequest hw
  rcases h with ⟨app, r, hphase⟩ | ⟨app, hphase⟩ | ⟨app, st, hphase⟩ | ⟨c, m, hphase⟩ | ⟨hphase, hfresh⟩
  · simp only [State.requestParking, hw, hphase, hasked]
  · simp only [State.requestParking, hw, hphase, hasked]
  · simp only [State.requestParking, hw, hphase, hasked]
  · simp only [State.requestParking, hw, hphase, hasked]
  · simp only [State.requestParking, hw, hphase, hasked, hfresh, if_true]

/-- At a boundary the walk is parked at once (R43, R63; log 18). -/
theorem State.requestParking_of_boundary {s : State} {w : Walk} {j : Ticket} (hw : s.walk = some w)
    (hj : s.ticket w.slot = some j) (hqueued : s.urgentQueued = true) (hphase : w.phase = .ready)
    (hfresh : w.fresh = false) (hend : w.endRequest = none) :
    s.requestParking = (s.parksWalk w j).arbitrate := by
  have hasked := State.changeWalk_parkRequest hw
  have haskedQueued : (s.asksParking w).urgentQueued = true := hqueued
  calc s.requestParking
    _ = (s.asksParking w).cardBoundary := by simp [State.requestParking, hw, hphase, hfresh, hasked]
    _ = (s.asksParking w).park := by
      rw [State.cardBoundary, haskedQueued]
      simp [State.asksParking, hend]
    _ = (s.parksWalk w j).arbitrate :=
      (State.park_eq (s := s.asksParking w) rfl hj).trans (congrArg _ (s.asksParking_parksWalk w j))

/-- A room stall is a boundary: the walk is parked with its card to be repeated (R43, R71; log 18). -/
theorem State.requestParking_of_roomStall {s : State} {w : Walk} {j : Ticket} (hw : s.walk = some w)
    (hj : s.ticket w.slot = some j) (hqueued : s.urgentQueued = true) {app : Application} {r : Bool}
    (hphase : w.phase = .roomStall app r) (hend : w.endRequest = none) :
    s.requestParking = (s.parksWalk w.stopsInRoom j).arbitrate := by
  have hasked := State.changeWalk_parkRequest hw
  have haskedQueued : (s.asksParking w).urgentQueued = true := hqueued
  calc s.requestParking
    _ = (s.asksParking w).roomStall app := by simp [State.requestParking, hw, hphase, hasked]
    _ = (s.asksParking w.stopsInRoom).park := by
      rw [State.roomStall, haskedQueued]
      simp [State.asksParking, hend, State.changeWalk, State.withWalk, Walk.stopsInRoom_eq]
      rfl
    _ = (s.parksWalk w.stopsInRoom j).arbitrate :=
      (State.park_eq (s := s.asksParking w.stopsInRoom) rfl hj).trans
        (congrArg _ (s.asksParking_parksWalk w.stopsInRoom j))

/-- The ticket just taken is one that an URGENT walk may be chosen from (R42). -/
theorem State.taken_urgentQueued (s : State) (n : Nat) {k : Ticket} (hcls : k.cls = .urgent) (hstate : k.state = .queued) :
    (s.taken n k).urgentQueued = true :=
  List.any_eq_true.mpr
    ⟨(n, k), mem_of_assocFind (s.taken_ticket_self n k), (Ticket.urgentCandidate_iff k).mpr ⟨hcls, hstate⟩⟩

/-- The ticket just taken asks for nothing when no OVERNIGHT walk was in progress before it (R42). -/
theorem State.taken_afterTaking {s : State} {n : Nat} {k : Ticket}
    (h : ¬ (k.cls = .urgent ∧ ∃ w j, s.walk = some w ∧ s.ticket w.slot = some j ∧ j.cls = .overnight)) :
    (s.taken n k).afterTaking k = s.taken n k := by
  refine State.afterTaking_of_not_asked fun hurgent w j hw hj hovernight => ?_
  by_cases hslot : w.slot = n
  · obtain rfl : k = j := Option.some.inj ((s.taken_ticket_self n k).symm.trans (hslot ▸ hj))
    rw [hurgent] at hovernight
    contradiction
  · exact h ⟨hurgent, w, j, hw, (s.taken_ticket_ne hslot k).symm.trans hj, hovernight⟩

end Sys2Proof.Machine

namespace Sys2Proof.Tickets
open Sys2Proof.Machine

/-- Settles O25: the first failing check of R38 settles the ticket, and a ticket taken asks an OVERNIGHT walk for parking by
the walk's phase. -/
theorem postedTicketsAreTakenOrMalformed : Obligations.PostedTicketsAreTakenOrMalformed := by
  intro s n l _ hl hnone hgood hposted hb hwf readable cls chain limit activation deadline list capacity fault zeroed settled
  have hfault : s.ticketFault (s.readTicket n) = fault := State.ticketFault_eq hl _ rfl
  have hreadable : (hostFieldOffsets.any fun off => s.ticketFaulty n off) = false ↔ readable := s.hostFields_readable_iff n
  have hsweep : s.sweepSlot n = s.takeTicket n := State.sweepSlot_of_posted hgood hnone hposted
  have hsettled : ∀ (o : TicketOutcome) (r : Reason), s.takeTicket n = s.settleUnheld n o r → settled o r 0x004#9 :=
    fun o r htake => ⟨_, hsweep.trans htake, by
      have hspec := State.settleUnheld_spec hwf hb n o r 0#9
      rwa [BitVec.or_zero, BitVec.zero_or] at hspec⟩
  refine ⟨State.resolveLink_eq hl, fun hbad => ?_, fun hread r hr => ?_, fun hread hr hset hdue => ?_, ?taken⟩
  · exact ⟨_, hsweep.trans (State.takeTicket_of_unreadable (Bool.not_eq_false _ ▸ fun h => hbad (hreadable.mp h))),
      State.settleUnheld_spec hwf hb n .malformed .memory 0x010#9⟩
  · exact hsettled _ _ (State.takeTicket_of_fault (hreadable.mpr hread) (hfault.trans hr))
  · exact hsettled _ _ (State.takeTicket_of_expired (hreadable.mpr hread) (hfault.trans hr)
      ((deadlineReached_iff _ _).mpr ⟨hset, hdue⟩))
  case taken =>
    intro hread hr hlive k
    have hnotDue : deadlineReached deadline s.time.storeTime = false := by
      rw [← Bool.not_eq_true, deadlineReached_iff]
      rcases hlive with hlive | hlive <;> simp [hlive]
    have htake : s.sweepSlot n = (s.taken n k).afterTaking k :=
      hsweep.trans (State.takeTicket_of_accepted (hreadable.mpr hread) (hfault.trans hr) hnotDue)
    have hurgent : k.cls = .urgent ↔ cls = 1 := by
      show (if cls = 1 then TicketClass.urgent else .overnight) = .urgent ↔ cls = 1
      split <;> simp [*]
    obtain ⟨hzeroed, hkept⟩ := State.taken_words hwf hb n k
    refine ⟨s.taken n k, hzeroed, (hkept 0 (by simp)).trans hposted, hkept 12 (by simp), hkept 20 (by simp),
      s.taken_frame n k, fun hnot => ?_, fun w j hcls hw hj hovernight => ?_⟩
    · rw [htake]
      exact State.taken_afterTaking (mt (And.imp_left hurgent.mp) hnot)
    · have hslot : w.slot ≠ n := fun h => absurd ((h ▸ hj).symm.trans hnone) (by simp)
      have hj : (s.taken n k).ticket w.slot = some j := (s.taken_ticket_ne hslot k).trans hj
      have hqueued := s.taken_urgentQueued n (hurgent.mpr hcls) (k := k) rfl
      rw [htake, State.afterTaking_of_asked (s := s.taken n k) (hurgent.mpr hcls) hw hj hovernight]
      refine ⟨State.requestParking_of_card (s := s.taken n k) hw, fun hphase hfresh hend => ?_, fun app r hphase hend => ?_⟩
      · rw [State.requestParking_of_boundary (s := s.taken n k) hw hj hqueued hphase hfresh hend]
        exact State.arbitrates_arbitrate _
      · rw [State.requestParking_of_roomStall (s := s.taken n k) hw hj hqueued hphase hend]
        exact State.arbitrates_arbitrate _

end Sys2Proof.Tickets
end

section
/-! The board sweep and the end of a load (R55, R181 to R183). -/

namespace Sys2Proof.Machine

/-! ## The tallies that a load reads (R55) -/

/-- The tally at place 7 + k of a ticket record, as a load reads it: a faulted word is taken as 0. -/
def State.tallyRead (s : State) (p k : Nat) : Nat :=
  if s.ram.faulty (p + 52 + 4 * k) then 0 else (s.ram.word (p + 52 + 4 * k)).toNat

/-- The sum of the eight closing tallies as a load reads them. -/
def State.closingSum (s : State) (p : Nat) : Nat :=
  s.tallyRead p 1 + s.tallyRead p 2 + s.tallyRead p 3 + s.tallyRead p 4 + s.tallyRead p 5 + s.tallyRead p 6
    + s.tallyRead p 7 + s.tallyRead p 8

theorem State.loadTally_eq (s : State) (p : Nat) {t : Tally} {k : Nat} (h : t.place = 7 + k) :
    s.loadTally p t = s.tallyRead p k := by
  have hplace : p + t.offset = p + 52 + 4 * k := by
    rw [Tally.offset_eq, h]
    omega
  rw [State.loadTally, hplace, State.tallyRead]

theorem State.tallyRead_lt (s : State) (p k : Nat) : s.tallyRead p k < 2 ^ 32 := by
  unfold State.tallyRead
  split
  · decide
  · exact BitVec.isLt _

theorem State.closingSum_eq (s : State) (p : Nat) : (closedTallies.map (s.loadTally p)).sum = s.closingSum p := by
  have hread : ∀ {t : Tally} {k : Nat}, t.place = 7 + k → s.loadTally p t = s.tallyRead p k := fun h => s.loadTally_eq p h
  simp only [closedTallies, List.map_cons, List.map_nil, List.sum_cons, List.sum_nil, State.closingSum,
    hread (t := .confirmed) (k := 1) rfl, hread (t := .unconfirmed) (k := 2) rfl, hread (t := .missed) (k := 3) rfl,
    hread (t := .noReply) (k := 4) rfl, hread (t := .rejected) (k := 5) rfl, hread (t := .superseded) (k := 6) rfl,
    hread (t := .cancelled) (k := 7) rfl, hread (t := .alreadyShown) (k := 8) rfl]
  omega

/-- Entered is raised to the sum of the closing tallies when it is below it (R55; log 4 for a sum that does not fit). -/
theorem State.loadEntered_eq (s : State) (p : Nat) :
    s.loadEntered p =
      if s.tallyRead p 0 < s.closingSum p then tallyWord (s.closingSum p) else BitVec.ofNat 32 (s.tallyRead p 0) := by
  simp only [State.loadEntered, s.loadTally_eq p (t := .entered) (k := 0) rfl, s.closingSum_eq]

theorem State.loadInterrupted_eq (s : State) (p : Nat) :
    s.loadInterrupted p = BitVec.ofNat 32 (s.tallyRead p 0 - s.closingSum p) := by
  simp only [State.loadInterrupted, s.loadTally_eq p (t := .entered) (k := 0) rfl, s.closingSum_eq]

theorem exists_closedTally {k : Nat} (h1 : 1 ≤ k) (h8 : k ≤ 8) : ∃ t ∈ closedTallies, t.place = 7 + k := by
  have hall : ∀ k < 9, 1 ≤ k → ∃ t ∈ closedTallies, t.place = 7 + k := by decide
  exact hall k (by omega) h1

theorem State.loadTallyFaulty_iff (s : State) (p : Nat) :
    s.loadTallyFaulty p = true ↔ ∃ k, k ≤ 8 ∧ s.ram.faulty (p + 52 + 4 * k) = true := by
  have hplaces : ∀ t ∈ Tally.entered :: closedTallies, 7 ≤ t.place ∧ t.place ≤ 15 := by decide
  have hall : ∀ k < 9, ∃ t ∈ Tally.entered :: closedTallies, t.place = 7 + k := by decide
  simp only [State.loadTallyFaulty, List.any_eq_true, Tally.offset_eq]
  constructor
  · rintro ⟨t, ht, hfaulty⟩
    have hplace := hplaces t ht
    refine ⟨t.place - 7, by omega, ?_⟩
    rwa [show p + 52 + 4 * (t.place - 7) = p + (24 + 4 * t.place) by omega]
  · rintro ⟨k, hk, hfaulty⟩
    obtain ⟨t, ht, hplace⟩ := hall k (by omega)
    refine ⟨t, ht, ?_⟩
    rwa [hplace, show p + (24 + 4 * (7 + k)) = p + 52 + 4 * k by omega]

/-! ## The settlement of a ticket that a load finds part-owned (R55) -/

/-- What a load writes into the record of a part-owned ticket. -/
def State.interruptedFields (s : State) (p : Nat) : List (Nat × Word) :=
  (52, s.loadEntered p) :: closedTallies.map (fun k => (k.offset, BitVec.ofNat 32 (s.loadTally p k)))
    ++ (88, s.loadInterrupted p) :: closingFields .interrupted .none none

theorem State.foldl_putWord (s : State) (p : Nat) (l : List (Tally × Word)) :
    l.foldl (fun s q => s.putWord (p + q.1.offset) q.2) s =
      s.onRam (·.setFields p (l.map fun q => (q.1.offset, q.2))) := by
  induction l generalizing s with
  | nil =>
    simp only [List.map_nil, Ram.setFields_nil]
    rfl
  | cons q l ih =>
    rw [List.foldl_cons, ih]
    simp only [List.map_cons, Ram.setFields_cons]
    rfl

theorem State.interruptTicket_eq (s : State) (p : Nat) :
    s.interruptTicket p =
      { s with
        ram := s.ram.setFields p (s.interruptedFields p)
        host := { s.host with
          attention := s.host.attention ||| if s.loadTallyFaulty p then 0x014#9 else 0x004#9 } } := by
  have hfields : s.interruptedFields p =
      ((Tally.entered, s.loadEntered p) :: closedTallies.map (fun k => (k, BitVec.ofNat 32 (s.loadTally p k)))
        ++ [(Tally.interrupted, s.loadInterrupted p)]).map (fun q => (q.1.offset, q.2))
        ++ closingFields .interrupted .none none := by
    simp only [State.interruptedFields, List.map_append, List.map_cons, List.map_map, List.append_assoc]
    rfl
  rw [hfields, Ram.setFields_append]
  simp only [State.interruptTicket, State.foldl_putWord, closingFields, Ram.setFields_cons, Ram.setFields_nil]
  cases s.loadTallyFaulty p
  · rfl
  · simp only [State.latchIf, State.latch, State.onHost, State.onRam, State.putWord, if_true, BitVec.or_assoc]
    rfl

theorem State.offset_of_mem_interruptedFields {s : State} {p : Nat} {q : Nat × Word} (hq : q ∈ s.interruptedFields p) :
    52 ≤ q.1 ∧ q.1 < 92 ∨ q.1 = 12 ∨ q.1 = 20 ∨ q.1 = 0 := by
  have hplaces : ∀ t ∈ closedTallies, 8 ≤ t.place ∧ t.place ≤ 15 := by decide
  rw [State.interruptedFields, List.mem_append, List.mem_cons, List.mem_cons, List.mem_map] at hq
  rcases hq with (rfl | ⟨t, ht, rfl⟩) | rfl | hq
  · exact .inl (by simp)
  · have := hplaces t ht
    simp only [Tally.offset_eq]
    omega
  · exact .inl (by simp)
  · exact .inr (offset_of_mem_closingFields hq)

theorem State.interruptedFields_nodup (s : State) (p : Nat) : ((s.interruptedFields p).map fun q => q.1 / 4).Nodup := by
  have hplaces : (s.interruptedFields p).map (fun q => q.1 / 4) = [13, 14, 15, 16, 17, 18, 19, 20, 21, 22, 3, 5, 0] := by
    simp [State.interruptedFields, closedTallies, Tally.offset, Tally.place, closingFields]
  rw [hplaces]
  decide

/-- What a load leaves in a word that it writes, with fresh parity (R55). -/
theorem State.interruptTicket_word {s : State} {p : Nat} (hp : p % 4 = 0) (h : s.ram.wf = true) {off : Nat} {w : Word}
    (hmem : (off, w) ∈ s.interruptedFields p) :
    (s.interruptTicket p).ram.word (p + off) = w ∧ (s.interruptTicket p).ram.faulty (p + off) = false := by
  rw [State.interruptTicket_eq]
  exact ⟨Ram.word_setFields_of_mem h hp (s.interruptedFields_nodup p) hmem, Ram.faulty_setFields_of_mem _ hmem⟩

theorem State.interruptTicket_frame {s : State} {p : Nat} (hp : p % 4 = 0) (h : s.ram.wf = true) {x : Nat}
    (hx : x < p ∨ p + 92 ≤ x ∨ (p + 4 ≤ x ∧ x < p + 12) ∨ (p + 16 ≤ x ∧ x < p + 20) ∨ (p + 24 ≤ x ∧ x < p + 52)) :
    (s.interruptTicket p).ram.byte x = s.ram.byte x ∧ (s.interruptTicket p).ram.faulty x = s.ram.faulty x := by
  have hne : ∀ q ∈ s.interruptedFields p, x / 4 ≠ (p + q.1) / 4 := fun q hq => by
    have := State.offset_of_mem_interruptedFields hq
    omega
  rw [State.interruptTicket_eq]
  exact ⟨Ram.byte_setFields_of_ne h hne, Ram.faulty_setFields_of_ne _ hne⟩

theorem State.closedTally_mem (s : State) (p : Nat) {k : Nat} (h1 : 1 ≤ k) (h8 : k ≤ 8) :
    (52 + 4 * k, BitVec.ofNat 32 (s.tallyRead p k)) ∈ s.interruptedFields p := by
  obtain ⟨t, ht, hplace⟩ := exists_closedTally h1 h8
  rw [← s.loadTally_eq p hplace]
  refine List.mem_append_left _ (List.mem_cons_of_mem _ (List.mem_map.mpr ⟨t, ht, ?_⟩))
  rw [Tally.offset_eq, hplace, show 24 + 4 * (7 + k) = 52 + 4 * k by omega]

theorem State.closing_mem (s : State) (p : Nat) {q : Nat × Word} (hq : q ∈ closingFields .interrupted .none none) :
    q ∈ s.interruptedFields p := List.mem_append_right _ (List.mem_cons_of_mem _ hq)

/-- The ten tallies from entered to interrupted are all written (R55). -/
theorem State.exists_tally_mem (s : State) (p : Nat) {k : Nat} (h9 : k ≤ 9) :
    ∃ w, (52 + 4 * k, w) ∈ s.interruptedFields p := by
  obtain rfl | rfl | ⟨h1, h8⟩ : k = 0 ∨ k = 9 ∨ 1 ≤ k ∧ k ≤ 8 := by omega
  · exact ⟨_, List.mem_cons_self⟩
  · exact ⟨_, List.mem_append_right _ List.mem_cons_self⟩
  · exact ⟨_, s.closedTally_mem p h1 h8⟩

/-- The tallies after a load settled the ticket: entered, the eight closing ones, and interrupted (R55). -/
theorem State.interruptTicket_tallies {s : State} {p : Nat} (hp : p % 4 = 0) (h : s.ram.wf = true) :
    (s.interruptTicket p).ram.word (p + 52) = s.loadEntered p
      ∧ (∀ k, 1 ≤ k → k ≤ 8 →
        (s.interruptTicket p).ram.word (p + 52 + 4 * k) = BitVec.ofNat 32 (s.tallyRead p k))
      ∧ (s.interruptTicket p).ram.word (p + 52 + 4 * 9) = s.loadInterrupted p
      ∧ ∀ k, k ≤ 9 → (s.interruptTicket p).ram.faulty (p + 52 + 4 * k) = false := by
  refine ⟨(State.interruptTicket_word hp h List.mem_cons_self).1, fun k h1 h8 => ?_, ?_, fun k h9 => ?_⟩
  · rw [Nat.add_assoc]
    exact (State.interruptTicket_word hp h (s.closedTally_mem p h1 h8)).1
  · exact (State.interruptTicket_word hp h (off := 88) (List.mem_append_right _ List.mem_cons_self)).1
  · obtain ⟨w, hw⟩ := s.exists_tally_mem p h9
    rw [Nat.add_assoc]
    exact (State.interruptTicket_word hp h hw).2

/-- The handoff word, the outcome and the stop card that a load leaves, with fresh parity (R50, R55). -/
theorem State.interruptTicket_closing {s : State} {p : Nat} (hp : p % 4 = 0) (h : s.ram.wf = true) :
    ((s.interruptTicket p).ram.word p = 5#32 ∧ (s.interruptTicket p).ram.faulty p = false)
      ∧ ((s.interruptTicket p).ram.word (p + 12) = 5#32 ∧ (s.interruptTicket p).ram.faulty (p + 12) = false)
      ∧ (s.interruptTicket p).ram.word (p + 20) = 0xFFFFFFFF#32 ∧ (s.interruptTicket p).ram.faulty (p + 20) = false :=
  ⟨State.interruptTicket_word (off := 0) hp h (s.closing_mem p (by simp [closingFields, handoffSettled])),
    State.interruptTicket_word hp h (s.closing_mem p List.mem_cons_self),
    State.interruptTicket_word hp h (s.closing_mem p (List.mem_cons_of_mem _ List.mem_cons_self))⟩

theorem State.interruptTicket_host_of_good {s : State} {p : Nat}
    (h : ∀ k, k ≤ 8 → s.ram.faulty (p + 52 + 4 * k) = false) :
    (s.interruptTicket p).host = { s.host with attention := s.host.attention ||| 0x004#9 } := by
  have hnone : s.loadTallyFaulty p = false := by
    rw [← Bool.not_eq_true, State.loadTallyFaulty_iff]
    rintro ⟨k, hk, hfaulty⟩
    exact Bool.false_ne_true ((h k hk).symm.trans hfaulty)
  rw [State.interruptTicket_eq, hnone]
  rfl

theorem State.interruptTicket_host_of_bad {s : State} {p : Nat}
    (h : ∃ k, k ≤ 8 ∧ s.ram.faulty (p + 52 + 4 * k) = true) :
    (s.interruptTicket p).host = { s.host with attention := s.host.attention ||| 0x014#9 } := by
  rw [State.interruptTicket_eq, (s.loadTallyFaulty_iff p).mpr h]
  rfl

theorem toNat_ofNat_of_lt {x : Nat} (h : x < 2 ^ 32) : (BitVec.ofNat 32 x).toNat = x := by
  rw [BitVec.toNat_ofNat, Nat.mod_eq_of_lt h]

/-! ## The sweep of the board and the end of a load (R55, R181 to R183) -/

theorem State.loadSweepSlot_of_faulty {s : State} {base n : Nat} (h : s.ram.faulty (base + 128 * n) = true) :
    State.loadSweepSlot base s n = { s with host := { s.host with attention := s.host.attention ||| 0x018#9 } } := by
  simp only [State.loadSweepSlot, h, if_true, State.latch, State.onHost, BitVec.or_assoc]
  rfl

theorem State.loadSweepSlot_of_good {s : State} {base n : Nat} (h : s.ram.faulty (base + 128 * n) = false) :
    State.loadSweepSlot base s n =
      if partOwned (s.ram.word (base + 128 * n)) then s.interruptTicket (base + 128 * n)
      else if s.ram.word (base + 128 * n) = 0#32 ∨ s.ram.word (base + 128 * n) = 1#32 ∨ s.ram.word (base + 128 * n) = 5#32
        then s
      else s.latch .boardClash := by
  simp only [State.loadSweepSlot, h, Bool.false_eq_true, if_false]
  rfl

theorem State.loadSweepSlot_of_owned {s : State} {base n : Nat} (hgood : s.ram.faulty (base + 128 * n) = false)
    (h : s.ram.word (base + 128 * n) = 2#32 ∨ s.ram.word (base + 128 * n) = 3#32 ∨ s.ram.word (base + 128 * n) = 4#32) :
    State.loadSweepSlot base s n = s.interruptTicket (base + 128 * n) := by
  rw [State.loadSweepSlot_of_good hgood, if_pos]
  simpa [partOwned, or_assoc] using h

theorem State.loadSweepSlot_of_kept {s : State} {base n : Nat} (hgood : s.ram.faulty (base + 128 * n) = false)
    (h : s.ram.word (base + 128 * n) = 0#32 ∨ s.ram.word (base + 128 * n) = 1#32 ∨ s.ram.word (base + 128 * n) = 5#32) :
    State.loadSweepSlot base s n = s := by
  rw [State.loadSweepSlot_of_good hgood, if_neg, if_pos h]
  rcases h with h | h | h <;> simp [partOwned, h]

theorem State.loadSweepSlot_of_clash {s : State} {base n : Nat} (hgood : s.ram.faulty (base + 128 * n) = false)
    (h : 5 < (s.ram.word (base + 128 * n)).toNat) :
    State.loadSweepSlot base s n = { s with host := { s.host with attention := s.host.attention ||| 0x008#9 } } := by
  have hne : ∀ v : Word, v.toNat ≤ 5 → s.ram.word (base + 128 * n) ≠ v := fun v hv heq => by
    rw [heq] at h
    omega
  rw [State.loadSweepSlot_of_good hgood, if_neg, if_neg]
  · rfl
  · rintro (h | h | h) <;> exact hne _ (by decide) h
  · simp only [partOwned, Bool.or_eq_true, beq_iff_eq]
    rintro ((h | h) | h) <;> exact hne _ (by decide) h

theorem State.loadSweepSlot_time (base : Nat) (s : State) (n : Nat) : (State.loadSweepSlot base s n).time = s.time := by
  unfold State.loadSweepSlot
  dsimp only
  split
  · rfl
  · split
    · rw [State.interruptTicket_eq]
    · split <;> rfl

theorem State.foldl_loadSweepSlot_time (base : Nat) (s : State) (l : List Nat) :
    (l.foldl (State.loadSweepSlot base) s).time = s.time := by
  induction l generalizing s with
  | nil => rfl
  | cons n rest ih => rw [List.foldl_cons, ih, State.loadSweepSlot_time]

/-- The end of a load in HALTED (R183). -/
theorem State.completeLoad_eq (s : State) (l : Load) :
    s.completeLoad l =
      { s with
        load := (s.completeLoad l).load
        loader := .idle
        time := { s.time with liveRush := (s.completeLoad l).time.liveRush }
        host := { s.host with
          runState := .halted
          loadFault := .none
          lastCommand := 3#4
          lastResult := .done
          active := none
          attention := s.host.attention ||| 0x001#9 } } := rfl

theorem Ram.anyFaulty_eq_false_iff (m : Ram) (a n : Nat) :
    m.anyFaulty a n = false ↔ ∀ j < n, m.faulty (a + 4 * j) = false := by
  simp [Ram.anyFaulty]

/-- A load whose header and settings are accepted sweeps the board and completes. -/
theorem exec_loadCheck {s : State} (hrun : s.host.runState = .loading) (hloader : s.loader = .checking)
    (hheader : ∀ j < 16, s.ram.faulty (4 * j) = false) (hcode : s.readHeader.faultCode = .none)
    (hsettings : ∀ j < 16, s.ram.faulty ((s.ram.word 20).toNat + 4 * j) = false)
    (hchannel : ((s.ram.word (s.ram.word 20).toNat).extractLsb' 16 8).toNat ≤ 15) :
    exec .loadCheck s =
      .next ((s.loadSweep (s.ram.word 8).toNat).completeLoad (s.readSettings s.readHeader)) := by
  have hdue : s.loadCheckDue = true := by simp [State.loadCheckDue, hrun, hloader]
  have hgood : s.ram.anyFaulty 0 16 = false := (s.ram.anyFaulty_eq_false_iff 0 16).mpr (by simpa using hheader)
  have hblock : s.ram.anyFaulty s.readHeader.settingsBase 16 = false := (s.ram.anyFaulty_eq_false_iff _ 16).mpr hsettings
  have hlow : ¬ 15 < s.storedChannel s.readHeader.settingsBase := Nat.not_lt.mpr hchannel
  simp only [exec, execLoadCheck, hdue, if_true, State.checkLoad, hgood, Bool.false_eq_true, if_false, hcode,
    State.loadSettings, hblock, hlow]
  rfl

end Sys2Proof.Machine

namespace Sys2Proof.Tickets
open Sys2Proof.Machine

/-- Settles O27: the tallies as the load reads them, the sweep of one slot, and the end of the load. -/
theorem interruptedTicketsBalance : Obligations.InterruptedTicketsBalance := by
  refine ⟨fun s p hp hwf => ?ticket, fun s base n => ⟨State.loadSweepSlot_of_faulty, fun hgood =>
    ⟨State.loadSweepSlot_of_owned hgood, State.loadSweepSlot_of_kept hgood, State.loadSweepSlot_of_clash hgood⟩⟩,
    fun s hrun hloader hheader hcode hsettings hchannel => ?load⟩
  case ticket =>
    intro bad read sum t tally
    have hlt : ∀ k, read k < 2 ^ 32 := s.tallyRead_lt p
    obtain ⟨hentered, hclosed, hinterrupted, hparity⟩ := State.interruptTicket_tallies hp hwf
    obtain ⟨⟨hhandoff, hhandoffGood⟩, ⟨houtcome, houtcomeGood⟩, hstop, hstopGood⟩ := State.interruptTicket_closing hp hwf
    have hentered : t.ram.word (p + 52) = if read 0 < sum then tallyWord sum else BitVec.ofNat 32 (read 0) :=
      hentered.trans (s.loadEntered_eq p)
    have hinterrupted : t.ram.word (p + 52 + 4 * 9) = BitVec.ofNat 32 (read 0 - sum) :=
      hinterrupted.trans (s.loadInterrupted_eq p)
    refine ⟨fun hfits => ?sumFits, fun hover hsmall => ?raised, fun hlarge => ?overflows,
      fun k h1 h8 => (congrArg BitVec.toNat (hclosed k h1 h8)).trans (toNat_ofNat_of_lt (hlt k)),
      (congrArg BitVec.toNat hinterrupted).trans (toNat_ofNat_of_lt ((Nat.sub_le _ _).trans_lt (hlt 0))),
      houtcome, hstop, hhandoff, ?words, hparity, State.interruptTicket_host_of_good, State.interruptTicket_host_of_bad,
      ?frame, fun x hx => State.interruptTicket_frame hp hwf hx⟩
    case sumFits =>
      rw [if_neg (Nat.not_lt.mpr hfits)] at hentered
      exact (congrArg BitVec.toNat hentered).trans (toNat_ofNat_of_lt (hlt 0))
    case raised =>
      rw [if_pos hover, tallyWord, if_pos hsmall] at hentered
      exact (congrArg BitVec.toNat hentered).trans (toNat_ofNat_of_lt hsmall)
    case overflows => rw [hentered, if_pos ((hlt 0).trans_le hlarge), tallyWord, if_neg (Nat.not_lt.mpr hlarge)]
    case words => simpa only [List.forall_mem_cons, List.not_mem_nil, false_implies, implies_true, and_true]
      using ⟨hhandoffGood, houtcomeGood, hstopGood⟩
    case frame => simp only [t, State.interruptTicket_eq]
  case load =>
    intro v
    refine ⟨_, exec_loadCheck hrun hloader hheader hcode hsettings hchannel, rfl, ?_⟩
    have htime : v.time = s.time := State.foldl_loadSweepSlot_time _ s _
    exact (State.completeLoad_eq v _).trans (by rw [htime]; rfl)

end Sys2Proof.Tickets
end

section
/-! Where a walk goes from a card, and what its boundary makes of the place: an end, a parking, or the walk there (R42, R43,
R58, R59, R63, R75, R80, R82). -/

namespace Sys2Proof.Machine

/-! ## Where a chain goes on (R58, R59, R75, R80) -/

/-- The walk at a place, with no card in progress. -/
def Walk.movesTo (w : Walk) (p : Position) : Walk :=
  { w with
    link := p.link, next := p.next, stack := p.stack, span := p.span, fresh := false, body := false, phase := .ready }

theorem Walk.movesTo_unwind (w : Walk) (stack : List Link) : (unwind stack).map w.movesTo = w.popsTo stack := by
  induction stack with
  | nil => rfl
  | cons top rest ih =>
    simp only [unwind, Walk.popsTo]
    split
    · exact ih
    · rfl

theorem Walk.movesTo_leave (w : Walk) (f : SpanFrame) (stack : List Link) :
    (f.leave stack).map w.movesTo = w.leavesSpan f stack := by
  simp only [SpanFrame.leave, followPlain, Walk.leavesSpan]
  split
  · exact w.movesTo_unwind stack
  · rfl

theorem Walk.movesTo_iterationEnd (w : Walk) (f : SpanFrame) (stack : List Link) :
    (f.iterationEnd stack).map w.movesTo = w.endsIteration f stack := by
  simp only [SpanFrame.iterationEnd, Walk.endsIteration, Nat.sub_eq_zero_iff_le]
  split
  · exact w.movesTo_leave _ stack
  · rfl

theorem Walk.movesTo_frameLevelEnd {w : Walk} {f : SpanFrame} (hspan : w.span = some f) (stack : List Link) :
    (f.levelEnd stack).map w.movesTo = w.popsInSpan f stack := by
  induction stack with
  | nil => rfl
  | cons top rest ih =>
    simp only [SpanFrame.levelEnd, Walk.popsInSpan]
    split
    · exact w.movesTo_iterationEnd f rest
    · split
      · exact ih
      · simp [Walk.movesTo, Walk.goesOnAt, hspan]

theorem Walk.movesTo_levelEnd (w : Walk) : (levelEnd w.stack w.span).map w.movesTo = w.endsLevel := by
  cases hspan : w.span with
  | none => simpa [levelEnd, Walk.endsLevel, hspan] using w.movesTo_unwind w.stack
  | some f => simpa [levelEnd, Walk.endsLevel, hspan] using Walk.movesTo_frameLevelEnd hspan w.stack

theorem Walk.movesTo_followLink (w : Walk) (l : Link) :
    (followLink l w.stack w.span).map w.movesTo = if l = .null then w.endsLevel else some (w.goesOnAt l) := by
  simp only [followLink]
  split
  · exact w.movesTo_levelEnd
  · rfl

theorem Walk.movesTo_afterCard (w : Walk) (c : Card) :
    (w.afterCard c).map w.movesTo = w.afterward (linkOfWord c.w4) := by
  have hfollow := w.movesTo_followLink (linkOfWord c.w4)
  cases hspan : w.span with
  | none => simpa only [Walk.afterCard, Walk.afterward, Card.nextLink, hspan] using hfollow
  | some f =>
    simp only [Walk.afterCard, Walk.afterward, Card.nextLink, hspan]
    split
    · exact w.movesTo_iterationEnd f w.stack
    · simpa only [hspan] using hfollow

theorem Walk.movesTo_afterEnd_of_body {w : Walk} {f : SpanFrame} (hspan : w.span = some f) (hbody : w.body = true) :
    w.afterEnd.map w.movesTo = w.endsIteration f w.stack := by
  simpa [Walk.afterEnd, hspan, hbody] using w.movesTo_iterationEnd f w.stack

theorem Walk.movesTo_afterEnd_of_level {w : Walk} (h : w.span = none ∨ w.body = false) :
    w.afterEnd.map w.movesTo = w.endsLevel := by
  have hlevel : w.afterEnd = levelEnd w.stack w.span := by
    cases hspan : w.span with
    | none => simp [Walk.afterEnd, levelEnd, hspan]
    | some f => simp_all [Walk.afterEnd, levelEnd]
  rw [hlevel, w.movesTo_levelEnd]

/-! ## The card boundary (R42, R43, R63, R82) -/

theorem State.withWalk_of_walk {s : State} {w : Walk} (hw : s.walk = some w) : s.withWalk (some w) = s := by
  rw [← hw]
  rfl

theorem State.changeWalk_withWalk (s : State) (w : Walk) (f : Walk → Walk) :
    (s.withWalk (some w)).changeWalk f = s.withWalk (some (f w)) := rfl

theorem State.urgentQueued_iff {s : State} (hrising : rising s.unit.tickets = true) :
    s.urgentQueued = true ↔ s.urgentWaits := by
  simp only [State.urgentQueued, List.any_eq_true, Ticket.urgentCandidate_iff]
  constructor
  · rintro ⟨p, hp, hurgent⟩
    exact ⟨p.1, p.2, assocFind_of_mem hrising hp, hurgent⟩
  · rintro ⟨m, k, hk, hurgent⟩
    exact ⟨(m, k), mem_of_assocFind hk, hurgent⟩

/-- A walk that the walker holds ends, whatever walk the state names otherwise. -/
theorem State.endWalk_stops (s : State) (w : Walk) (o : TicketOutcome) (r : Reason) (stop : Option Nat) :
    s.walkStops ((s.withWalk (some w)).endWalk o r stop) w o r stop 0#9 := fun k hmay =>
  State.endWalk_walkStops (s := s.withWalk (some w)) rfl o r stop k
    ⟨hmay.held, hmay.board, hmay.canonical, hmay.entries⟩

theorem State.endWalkAtCard_stops (s : State) (w : Walk) (o : TicketOutcome) (r : Reason) (stop : Option Nat) :
    s.walkStopsAtCard ((s.withWalk (some w)).endWalkAtCard o r stop) w o r stop 0#9 := by
  cases hend : w.endRequest <;>
    simpa only [State.walkStopsAtCard, State.endWalkAtCard, State.withWalk_walk, hend] using s.endWalk_stops w _ _ _

/-- The boundary of a walk that has moved to a place and holds no end request: parking, or its request lapses (R42, R43). -/
theorem State.cardBoundary_of_parkRequest {s : State} {p : Walk} (hend : p.endRequest = none) (hpark : p.parkRequest = true)
    (hrising : rising s.unit.tickets = true) :
    (¬ s.urgentWaits → (s.withWalk (some p)).cardBoundary = s.withWalk (some { p with parkRequest := false }))
      ∧ ∀ k, s.urgentWaits → s.ticket p.slot = some k →
        (s.parksWalk p k).arbitrates (s.withWalk (some p)).cardBoundary := by
  have hboundary : (s.withWalk (some p)).cardBoundary =
      if s.urgentQueued then (s.withWalk (some p)).park else s.withWalk (some { p with parkRequest := false }) := by
    simp only [State.cardBoundary, State.withWalk_walk, State.changeWalk_withWalk, hend, hpark, if_true]
    rfl
  rw [hboundary]
  refine ⟨fun hnone => if_neg (mt (State.urgentQueued_iff hrising).mp hnone), fun k hwaits hk => ?_⟩
  rw [if_pos ((State.urgentQueued_iff hrising).mpr hwaits), State.park_eq (s := s.withWalk (some p)) rfl hk]
  exact State.arbitrates_arbitrate _

/-- A walk that goes on at a place, or ends, reaches its boundary there. -/
theorem State.goTo_reaches (s : State) (w : Walk) (place : Option Position) :
    s.reaches ((s.withWalk (some w)).goTo place) w (place.map w.movesTo) := by
  cases place with
  | none =>
    have hstops := s.endWalkAtCard_stops w .complete .none none
    cases hend : w.endRequest <;>
      simpa only [State.goTo, State.reaches, State.walkStopsAtCard, hend, Option.map_none] using hstops
  | some p =>
    have hgo : (s.withWalk (some w)).goTo (some p) = (s.withWalk (some (w.movesTo p))).cardBoundary := rfl
    cases hend : w.endRequest with
    | some o =>
      have hends : (s.withWalk (some (w.movesTo p))).cardBoundary =
          (s.withWalk (some (w.movesTo p))).endWalk o .none none := by
        simp [State.cardBoundary, Walk.movesTo, hend]
      simp only [State.reaches, hend, hgo, hends]
      exact s.endWalk_stops (w.movesTo p) o .none none
    | none =>
      simp only [State.reaches, hend, hgo, Option.map_some]
      refine ⟨fun hpark => ?_, fun hpark hrising =>
        State.cardBoundary_of_parkRequest (p := w.movesTo p) hend hpark hrising⟩
      simp [State.cardBoundary, Walk.movesTo, hend, hpark, State.withWalk]

theorem State.completeCard_reaches (s : State) (w : Walk) (c : Card) :
    s.reaches ((s.withWalk (some w)).completeCard c) w (w.afterward (linkOfWord c.w4)) := by
  rw [← w.movesTo_afterCard c]
  exact s.goTo_reaches w (w.afterCard c)

end Sys2Proof.Machine
end

section
/-! What a card reports, the opening of its application, and the retry of a stalled one (R46, R48, R64, R67, R71, R72). -/

namespace Sys2Proof.Machine

/-! ## Reports of a card (R46, R48, R64, R69) -/

theorem State.writeExceptionOf_withWalk (s : State) (x : Option Walk) (n : Nat) (about : Option ExceptionEntry) :
    (s.withWalk x).writeExceptionOf n about = (s.writeExceptionOf n about).withWalk x := by
  cases about with
  | none => rfl
  | some e =>
    have hticket : (s.withWalk x).ticket n = s.ticket n := rfl
    cases hk : s.ticket n with
    | none => simp [State.writeExceptionOf, State.writeException, hticket, hk]
    | some k =>
      simp only [State.writeExceptionOf, State.writeException, hticket, hk]
      split <;> rfl

theorem State.tallied_withWalk (s : State) (x : Option Walk) (n place : Nat) :
    (s.withWalk x).tallied n place = (s.tallied n place).withWalk x := by
  have hticket : (s.withWalk x).ticket n = s.ticket n := rfl
  cases hk : s.ticket n with
  | none => simp only [State.tallied, hticket, hk]
  | some k =>
    simp only [State.tallied, hticket, hk]
    rfl

/-- A held ticket with seventeen counts is the one its slot names. -/
theorem State.tallies_of_ticket {s : State} {n : Nat} {k : Ticket} (hk : s.ticket n = some k)
    (hlength : k.tallies.length = 17) : ∀ j, s.ticket n = some j → j.tallies.length = 17 := fun _ hj =>
  Option.some.inj (hk.symm.trans hj) ▸ hlength

theorem State.writeExceptionOf_tallies {s : State} {n : Nat} (about : Option ExceptionEntry)
    (h : ∀ k, s.ticket n = some k → k.tallies.length = 17) :
    ∀ k, (s.writeExceptionOf n about).ticket n = some k → k.tallies.length = 17 := by
  cases about with
  | none => exact h
  | some e => exact State.writeException_tallies h

/-- What a report leaves of a state in which its card is in work: the exception entry and the count (R46). -/
def State.reported (s : State) (n place : Nat) (about : Option ExceptionEntry) : State :=
  (s.writeExceptionOf n about).tallied n place

theorem State.reportWork_withWalk {s : State} {n : Nat} (h : ∀ k, s.ticket n = some k → k.tallies.length = 17)
    (x : Option Walk) (t : Tally) (about : Option ExceptionEntry) :
    (s.withWalk x).reportWork n t about = (s.reported n t.place about).withWalk x := by
  rw [State.reportWork, State.countTally_eq (State.writeExceptionOf_tallies (s := s.withWalk x) about h),
    State.writeExceptionOf_withWalk, State.tallied_withWalk, State.reported]

theorem State.completesCard_iff (s t : State) (w : Walk) (c : Card) (place : Nat) (about : Option ExceptionEntry) :
    s.completesCard t w c place about ↔
      (s.reported w.slot place about).reaches t w (w.afterward (linkOfWord c.w4)) := by
  cases about <;> rfl

/-- A card that reports once is complete. -/
theorem State.reportWork_completesCard {s : State} {w : Walk}
    (h : ∀ k, s.ticket w.slot = some k → k.tallies.length = 17) (c : Card) (t : Tally) (about : Option ExceptionEntry) :
    s.completesCard (((s.withWalk (some w)).reportWork w.slot t about).completeCard c) w c t.place about := by
  rw [State.completesCard_iff, State.reportWork_withWalk h]
  exact State.completeCard_reaches _ w c

/-- A refused card reports the exception of its refusal, and is complete (R64). -/
theorem State.refuseCard_completesCard {s : State} {w : Walk}
    (h : ∀ k, s.ticket w.slot = some k → k.tallies.length = 17) (c : Card) (number : Nat) (why : ExceptionKind)
    (index : Nat) (ident : BitVec 24) :
    s.completesCard ((s.withWalk (some w)).refuseCard c number why index ident) w c 4
      (some (c.exception number why index ident)) :=
  State.reportWork_completesCard h c .refused (some (c.exception number why index ident))

/-! ## The opening of an application (R67, R72, R107) -/

theorem Entry.busy_iff (e : Entry) :
    e.busy = true ↔ e.turn.isSome = true ∨ e.removing.isSome = true ∨ e.decision.isSome = true := by
  simp [Entry.busy, or_assoc]

/-- The record read of an application is asked for (R67). -/
theorem State.requestRecord_eq (s : State) (w : Walk) (app : Application) :
    (s.withWalk (some w)).requestRecord app =
      { s with
        walk := some { w with phase := .reading app }
        cache := { s.cache with
          walkerRequest := some ⟨app.index, .read (if app.fromEntry then [0, 2] else [0, 1, 3]), .recordRead⟩ } } := rfl

theorem State.turnStall_stalls (s : State) (w : Walk) (app : Application) :
    s.stallsInTurn ((s.withWalk (some w)).turnStall app) w app := by
  cases hend : w.endRequest with
  | some o =>
    simp only [State.stallsInTurn, State.turnStall, State.withWalk_walk, hend]
    exact s.endWalk_stops w o .none none
  | none =>
    simp only [State.stallsInTurn, State.turnStall, State.withWalk_walk, hend, State.changeWalk_withWalk]
    rfl

/-- The application opens with the map's answer for its index. -/
theorem State.openApplication_opens (s : State) (w : Walk) (c : Card) (number index : Nat) :
    s.opens ((s.withWalk (some w)).openApplication c number index) w c number index := by
  have hentry : (s.withWalk (some w)).entry index = s.entry index := rfl
  refine ⟨fun hnone => ?_, fun e he => ⟨fun hturn hremoving hdecision => ?_, fun hbusy => ?_⟩⟩
  · simp only [State.openApplication, State.askMap, hentry, hnone]
    rfl
  · have hfree : e.busy = false := by simp [Entry.busy, hturn, hremoving, hdecision]
    simp only [State.openApplication, State.askMap, hentry, he, hfree]
    rfl
  · simp only [State.openApplication, State.askMap, hentry, he, (e.busy_iff).mpr hbusy, if_true]
    exact s.turnStall_stalls w _

end Sys2Proof.Machine

namespace Sys2Proof.ChangeChains
open Sys2Proof.Machine

/-- Settles O43: a room stall's retry is the record read of its application, and a turn stall's retry its opening. -/
theorem stallRetriesAskAgain : Obligations.StallRetriesAskAgain := by
  intro s w app hw
  refine ⟨fun hphase => ?_, fun hphase => ⟨_, rfl, ?_⟩⟩
  · have hretry : s.retryRoom = (s.withWalk (some w)).requestRecord app := by
      simp only [State.retryRoom, hw, hphase, State.withWalk_of_walk hw]
    exact congrArg Host.Outcome.next (hretry.trans (s.requestRecord_eq w app))
  · have hretry : s.retryTurn = (s.withWalk (some w)).openApplication app.card app.cardNumber app.index := by
      simp only [State.retryTurn, hw, hphase, State.withWalk_of_walk hw]
    rw [hretry]
    exact s.openApplication_opens w app.card app.cardNumber app.index

end Sys2Proof.ChangeChains
end

section
/-! Cards by their kind, and what a card that has been read does by its kind and the checks of R64 (R57, R58, R64 to R67, R74
to R77, R80, R82). -/

namespace Sys2Proof.Machine

/-! ## Kinds and ranges (R57, R65) -/

theorem CardKind.number_bounds (kind : CardKind) : 1 ≤ kind.number ∧ kind.number ≤ 8 := by cases kind <;> decide

theorem CardKind.targeting_iff (kind : CardKind) : kind.targeting = true ↔ kind.number ≤ 4 := by cases kind <;> decide

theorem CardKind.eq_span_iff (kind : CardKind) : kind = .span ↔ kind.number = 5 := by cases kind <;> decide

theorem CardKind.exists_number {code : Nat} (hlow : 1 ≤ code) (hhigh : code ≤ 8) :
    ∃ kind : CardKind, code = kind.number := by
  interval_cases code
  exacts [⟨.price, rfl⟩, ⟨.adjustPercent, rfl⟩, ⟨.adjustAmount, rfl⟩, ⟨.badge, rfl⟩, ⟨.span, rfl⟩, ⟨.include, rfl⟩,
    ⟨.mark, rfl⟩, ⟨.chainEnd, rfl⟩]

/-- The kind of a card is the one its code names. -/
theorem Card.kind_eq_some_iff {c : Card} {kind : CardKind} :
    c.kind = some kind ↔ (c.w0.extractLsb' 0 8).toNat = kind.number := by
  constructor
  · intro h
    unfold Card.kind Card.kindCode bitsOf at h
    split at h <;> cases h <;> assumption
  · intro h
    unfold Card.kind Card.kindCode bitsOf
    rw [h]
    cases kind <;> rfl

theorem Card.kind_eq_none {c : Card} (h : (c.w0.extractLsb' 0 8).toNat = 0 ∨ 8 < (c.w0.extractLsb' 0 8).toNat) :
    c.kind = none := by
  cases hkind : c.kind with
  | none => rfl
  | some kind =>
    have hcode := Card.kind_eq_some_iff.mp hkind
    have hbounds := kind.number_bounds
    omega

theorem Card.spanMode_iff (c : Card) : c.spanMode = true ↔ (c.w0.extractLsb' 8 2).toNat = 1 := by
  simp [Card.spanMode, Card.modeCode, bitsOf]

/-- The ranges of the operands, by the kind that the card's code names. -/
theorem Card.operandsInRange_iff {c : Card} {kind : CardKind} (h : (c.w0.extractLsb' 0 8).toNat = kind.number) :
    c.operandsInRange kind = true ↔ c.inRange := by
  have hkeep : ∀ {p : Bool} {q r : Prop}, ((p = false ∨ q) ∨ r) ↔ (p = true → q ∨ r) := fun {p q r} => by
    cases p <;> simp
  cases kind <;>
    simp only [Card.operandsInRange, between, allOnes, Bool.and_eq_true, Bool.or_eq_true, Bool.not_eq_true',
      decide_eq_true_eq, beq_iff_eq, hkeep] <;>
    simp [Card.inRange, h, CardKind.number, Card.modeCode, Card.guardCode, Card.twin, bitsOf, bitAt, Config.maxPrice,
      and_assoc]

/-! ## The checks in their order (R64) -/

section Checks

variable {s : State} {w : Walk} {k : Ticket} {c : Card} {kind : CardKind}

theorem State.walkTicket_withWalk (s : State) (w : Walk) : (s.withWalk (some w)).walkTicket = s.ticket w.slot := rfl

theorem State.actOnCard_of_unknown (hk : s.ticket w.slot = some k) (h : c.kind = none) (number : Nat) :
    (s.withWalk (some w)).actOnCard c number =
      (s.withWalk (some w)).refuseCard c number .badKind c.targetIndex 0#24 := by
  simp only [State.actOnCard, State.withWalk_walk, State.walkTicket_withWalk, hk, h]

theorem State.actOnCard_of_nested (hk : s.ticket w.slot = some k) (hkind : c.kind = some .span)
    (hspan : w.span.isSome = true) (number : Nat) :
    (s.withWalk (some w)).actOnCard c number =
      (s.withWalk (some w)).refuseCard c number .nestedSpan c.targetIndex 0#24 := by
  simp [State.actOnCard, State.walkTicket_withWalk, hk, hkind, hspan]

theorem State.actOnCard_of_badOperand (hk : s.ticket w.slot = some k) (hkind : c.kind = some kind)
    (hspan : kind = .span → w.span = none) (hrange : ¬ c.inRange) (number : Nat) :
    (s.withWalk (some w)).actOnCard c number =
      (s.withWalk (some w)).refuseCard c number .badOperand c.targetIndex 0#24 := by
  have hnested : ¬ (kind = .span ∧ w.span.isSome = true) := fun ⟨h, hsome⟩ => by simp [hspan h] at hsome
  have hoperands : c.operandsInRange kind = false :=
    Bool.not_eq_true _ ▸ mt (Card.operandsInRange_iff (Card.kind_eq_some_iff.mp hkind)).mp hrange
  simp only [State.actOnCard, State.withWalk_walk, State.walkTicket_withWalk, hk, hkind, hnested, hoperands, if_false,
    Bool.not_false, if_true]

theorem State.actOnCard_of_inRange (hk : s.ticket w.slot = some k) (hkind : c.kind = some kind)
    (hspan : kind = .span → w.span = none) (hrange : c.inRange) (number : Nat) :
    (s.withWalk (some w)).actOnCard c number =
      if kind.targeting = true ∧ c.spanMode = true ∧ w.span = none then
        (s.withWalk (some w)).refuseCard c number .noSpan c.targetIndex 0#24
      else (s.withWalk (some w)).actByKind w k c number kind := by
  have hnested : ¬ (kind = .span ∧ w.span.isSome = true) := fun ⟨h, hsome⟩ => by simp [hspan h] at hsome
  have hoperands := (Card.operandsInRange_iff (Card.kind_eq_some_iff.mp hkind)).mpr hrange
  simp only [State.actOnCard, State.withWalk_walk, State.walkTicket_withWalk, hk, hkind, hnested, hoperands, if_false,
    Bool.not_true, Bool.false_eq_true]

/-- The kinds whose operands have no range and which name no label (R57, R65). -/
theorem Card.inRange_of_plain (hcode : 6 ≤ (c.w0.extractLsb' 0 8).toNat) : c.inRange := by
  refine ⟨fun h => ?_, fun h => ?_, fun h => ?_, fun h => ?_, fun h => ?_, fun h => ?_, fun h => ?_⟩ <;> omega

theorem State.actOnCard_of_plain (hk : s.ticket w.slot = some k) (hcode : (c.w0.extractLsb' 0 8).toNat = kind.number)
    (hplain : 6 ≤ kind.number) (number : Nat) :
    (s.withWalk (some w)).actOnCard c number = (s.withWalk (some w)).actByKind w k c number kind := by
  have hspan : kind = .span → w.span = none := fun h => by
    rw [CardKind.eq_span_iff] at h
    omega
  rw [State.actOnCard_of_inRange hk (Card.kind_eq_some_iff.mpr hcode) hspan (Card.inRange_of_plain (hcode ▸ hplain)),
    if_neg fun h => ?_]
  have hfour := kind.targeting_iff.mp h.1
  omega

/-! ## The acts by kind (R58, R66, R74 to R77, R82) -/

theorem State.actByKind_of_targeting (h : kind.targeting = true) (number : Nat) :
    s.actByKind w k c number kind =
      let index := if c.spanMode then (w.span.map (·.current)).getD 0 else c.targetIndex
      s.unlessEnding
        (if s.directorySize ≤ index then s.refuseCard c number .badTarget index 0#24
         else s.openApplication c number index) := by
  match kind, h with
  | .price, _ | .adjustPercent, _ | .adjustAmount, _ | .badge, _ => rfl

/-- The application of a targeting card to an index: abandoned under a held end request, refused beyond the directory, else
opened (R66, R67, R82; log 17). -/
theorem State.application_acts (hlength : ∀ k, s.ticket w.slot = some k → k.tallies.length = 17) (c : Card)
    (number index : Nat) :
    let u := s.withWalk (some w)
    let t := u.unlessEnding
      (if u.directorySize ≤ index then u.refuseCard c number .badTarget index 0#24 else u.openApplication c number index)
    match w.endRequest with
    | some o => s.walkStops t w o .none none 0#9
    | none =>
      (s.directorySize ≤ index → s.completesCard t w c 4 (some (c.exception number .badTarget index 0#24)))
        ∧ (index < s.directorySize → s.opens t w c number index) := by
  intro u t
  cases hend : w.endRequest with
  | some o =>
    have ht : t = u.endWalk o .none none := State.unlessEnding_of_some rfl hend
    rw [ht]
    exact s.endWalk_stops w o .none none
  | none =>
    have ht : t = if s.directorySize ≤ index then u.refuseCard c number .badTarget index 0#24
        else u.openApplication c number index := State.unlessEnding_of_none rfl hend
    refine ⟨fun hbeyond => ?_, fun hinside => ?_⟩
    · rw [ht, if_pos hbeyond]
      exact State.refuseCard_completesCard hlength c number .badTarget index 0#24
    · rw [ht, if_neg (Nat.not_le.mpr hinside)]
      exact s.openApplication_opens w c number index

theorem State.resolveLink_eq_null {s : State} {base : Nat} {l : Link} : s.resolveLink base l = .null ↔ l = .null := by
  have htarget : ∀ number, s.cardTarget number ≠ .null := fun number => by
    unfold State.cardTarget
    split
    · simp
    · split <;> simp
  cases l <;> simp [State.resolveLink, htarget]

/-- An INCLUDE whose stack is full ends the walk; one with room goes on in its sub-chain (R76, R83). -/
theorem State.includeCard_acts (s : State) (w : Walk) (k : Ticket) (c : Card) (number : Nat) :
    let t := (s.withWalk (some w)).includeCard w k c number
    let next := linkOfWord c.w4
    let target := linkOfWord c.w8
    (4 ≤ w.stack.length → s.walkStopsAtCard t w .abridged .depth (some number) 0#9)
      ∧ (w.stack.length < 4 →
        (target = .null → s.reaches t w (w.afterward next))
          ∧ (s.resolveLink k.chainBase target = .bad → s.walkStopsAtCard t w .abridged .badLink (some number) 0#9)
          ∧ ∀ m, s.resolveLink k.chainBase target = .card m →
            s.reaches t w (some { w.goesOnAt target with stack := next :: w.stack })) := by
  intro t next target
  have hresolve : (s.withWalk (some w)).resolveLink k.chainBase c.targetLink = s.resolveLink k.chainBase target := rfl
  refine ⟨fun hfull => ?_, fun hroom => ⟨fun hnull => ?_, fun hbad => ?_, fun m hcard => ?_⟩⟩
  · have ht : t = (s.withWalk (some w)).endWalkAtCard .abridged .depth (some number) := if_pos hfull
    rw [ht]
    exact s.endWalkAtCard_stops w _ _ _
  · have ht : t = (s.withWalk (some w)).completeCard c := by
      simp only [t, State.includeCard, Nat.not_le.mpr hroom, if_false, hresolve, State.resolveLink_eq_null.mpr hnull]
    rw [ht]
    exact s.completeCard_reaches w c
  · have ht : t = (s.withWalk (some w)).endWalkAtCard .abridged .badLink (some number) := by
      simp only [t, State.includeCard, Nat.not_le.mpr hroom, if_false, hresolve, hbad]
    rw [ht]
    exact s.endWalkAtCard_stops w _ _ _
  · have ht : t = (s.withWalk (some w)).goTo (some ⟨c.targetLink, .nextCard, c.nextLink :: w.stack, w.span⟩) := by
      simp only [t, State.includeCard, Nat.not_le.mpr hroom, if_false, hresolve, hcard]
    rw [ht]
    exact s.goTo_reaches w _

/-- A MARK writes its tag to its ticket, on chip and on the board (R74). -/
theorem State.markCard_reaches (hk : s.ticket w.slot = some k) (c : Card) :
    ({ s with
      ram := s.ram.setWord (s.ticketOffset w.slot 16) c.w8
      unit := { s.unit with
        tickets := assocPut w.slot { k with progressMark := c.w8 } s.unit.tickets } } : State).reaches
      ((s.withWalk (some w)).markCard c) w (w.afterward (linkOfWord c.w4)) := by
  have hticket : (s.withWalk (some w)).ticket w.slot = some k := hk
  have hmark : (s.withWalk (some w)).markCard c = (State.withWalk
      { s with
        ram := s.ram.setWord (s.ticketOffset w.slot 16) c.w8
        unit := { s.unit with tickets := assocPut w.slot { k with progressMark := c.w8 } s.unit.tickets } }
      (some w)).completeCard c := by
    have hslot : (s.withWalk (some w)).walkSlot = w.slot := rfl
    simp only [State.markCard, State.changeTicket, hslot, hticket]
    rfl
  rw [hmark]
  exact State.completeCard_reaches _ w c

/-- A card that has been read acts by the checks of R64 in their order, and by its kind. -/
theorem State.actOnCard_acts (hk : s.ticket w.slot = some k) (hlength : k.tallies.length = 17) (c : Card) (number : Nat) :
    s.actsOnCard ((s.withWalk (some w)).actOnCard c number) w k c number := by
  have hlengths := State.tallies_of_ticket hk hlength
  have hrefused := fun why => State.refuseCard_completesCard hlengths c number why c.targetIndex 0#24
  refine ⟨fun hcode => ?unknown, fun hcode hspan => ?nested, fun hlow hhigh hspan hrange => ?operand,
    fun hlow hhigh hrange => ?targeting, fun hcode hspan hrange => ?span, fun hcode => ?inclusion, fun hcode => ?mark,
    fun hcode => ?chainEnd⟩
  case unknown =>
    rw [State.actOnCard_of_unknown hk (Card.kind_eq_none hcode)]
    exact hrefused .badKind
  case nested =>
    rw [State.actOnCard_of_nested hk (Card.kind_eq_some_iff.mpr hcode) hspan]
    exact hrefused .nestedSpan
  case operand =>
    obtain ⟨kind, hcode⟩ := CardKind.exists_number hlow hhigh
    rw [State.actOnCard_of_badOperand hk (Card.kind_eq_some_iff.mpr hcode)
      (fun h => hspan (hcode.trans (kind.eq_span_iff.mp h))) hrange]
    exact hrefused .badOperand
  case targeting =>
    obtain ⟨kind, hcode⟩ := CardKind.exists_number hlow (hhigh.trans (by decide))
    have htargeting : kind.targeting = true := kind.targeting_iff.mpr (hcode ▸ hhigh)
    have hnospan : kind = .span → w.span = none := fun h => by
      rw [CardKind.eq_span_iff] at h
      omega
    rw [State.actOnCard_of_inRange hk (Card.kind_eq_some_iff.mpr hcode) hnospan hrange,
      State.actByKind_of_targeting htargeting]
    refine ⟨fun hmode hspan => ?_, fun hmode => ?_, fun f hmode hspan => ?_⟩
    · rw [if_pos ⟨htargeting, c.spanMode_iff.mpr hmode, hspan⟩]
      exact hrefused .noSpan
    · have hfalse : c.spanMode = false := Bool.not_eq_true _ ▸ mt c.spanMode_iff.mp hmode
      simp only [hfalse, Bool.false_eq_true, false_and, and_false, if_false]
      exact State.application_acts hlengths c number c.targetIndex
    · simp only [c.spanMode_iff.mpr hmode, hspan, reduceCtorEq, and_false, if_false, if_true, Option.map_some,
        Option.getD_some]
      exact State.application_acts hlengths c number f.current
  case span =>
    rw [State.actOnCard_of_inRange hk (Card.kind_eq_some_iff.mpr hcode) (kind := .span) (fun _ => hspan) hrange,
      if_neg (by simp [CardKind.targeting])]
    exact s.goTo_reaches w (some ⟨c.nextLink, .nextIteration, w.stack, some (c.spanFrame w.stack.length)⟩)
  case inclusion =>
    rw [State.actOnCard_of_plain (kind := .include) hk hcode (by decide)]
    exact s.includeCard_acts w k c number
  case mark =>
    rw [State.actOnCard_of_plain (kind := .mark) hk hcode (by decide)]
    exact State.markCard_reaches hk c
  case chainEnd =>
    rw [State.actOnCard_of_plain (kind := .chainEnd) hk hcode (by decide)]
    refine ⟨fun f hspan hbody => ?_, fun hlevel => ?_⟩
    · rw [← Walk.movesTo_afterEnd_of_body hspan hbody]
      exact s.goTo_reaches w w.afterEnd
    · rw [← Walk.movesTo_afterEnd_of_level hlevel]
      exact s.goTo_reaches w w.afterEnd

end Checks

end Sys2Proof.Machine
end

section
/-! The reading of a card, and the steps CARD_READ and SPAN_ITERATION (R46, R59, R60, R62, R75, R78,
R83). -/

namespace Sys2Proof.Machine

/-! ## The walker at rest (R62, R63) -/

section Ready

variable {s : State} {w : Walk} {k : Ticket}

theorem State.WalkerReady.walkReady (h : s.WalkerReady w k) : s.walkReady = some w := by
  simp [State.walkReady, h.walk, h.ready, (s.walkerRuns_iff).mpr ⟨h.running, h.noHalt⟩]

theorem State.WalkerReady.walkTicket (h : s.WalkerReady w k) : s.walkTicket = some k := by
  rw [← State.withWalk_of_walk h.walk, State.walkTicket_withWalk, h.ticket]

theorem State.WalkerReady.walkSlot (h : s.WalkerReady w k) : s.walkSlot = w.slot := by
  simp [State.walkSlot, h.walk]

/-! ## What a read of a card leaves (R46, R62) -/

/-- The count of a card read lies at the place of a card's unused words. -/
theorem State.WalkerReady.cardsRead_mod (h : s.WalkerReady w k) : s.ticketOffset w.slot 24 % 32 = 24 := by
  have hboard := h.board
  simp only [State.ticketOffset]
  omega

theorem State.WalkerReady.hasRead_word (h : s.WalkerReady w k) (number : Nat) {a : Nat} (ha : a / 4 % 8 ≠ 6) :
    (s.hasRead w k number).ram.word a = s.ram.word a := by
  have hmod := h.cardsRead_mod
  simp only [State.hasRead]
  split
  · exact Ram.word_setWord_ne h.canonical (by omega) _
  · rfl

/-- The count leaves the card that is read as it stands. -/
theorem State.WalkerReady.hasRead_readCard (h : s.WalkerReady w k) (number : Nat) :
    (s.hasRead w k number).readCard number = s.readCard number := by
  simp only [State.readCard]
  rw [h.hasRead_word number (by omega), h.hasRead_word number (by omega), h.hasRead_word number (by omega),
    h.hasRead_word number (by omega), h.hasRead_word number (by omega)]

theorem State.hasRead_faulty (s : State) (w : Walk) (k : Ticket) (number : Nat) {a : Nat} (ha : s.ram.faulty a = false) :
    (s.hasRead w k number).ram.faulty a = false := by
  simp only [State.hasRead]
  split
  · rw [Ram.faulty_setWord]
    split
    · rfl
    · exact ha
  · exact ha

theorem State.hasRead_ticket (s : State) (w : Walk) (k : Ticket) (number : Nat) :
    (s.hasRead w k number).ticket w.slot = some (k.hasRead (w.next != .repeatCard) number) :=
  assocFind_put_self _ _ _

theorem Ticket.hasRead_tallies {k : Ticket} (hlength : k.tallies.length = 17) (counted : Bool) (number : Nat) :
    (k.hasRead counted number).tallies.length = 17 := by
  cases counted <;> simpa [Ticket.hasRead] using hlength

/-- The count of the card, unless it is repeated, and the last card read (R46, R62; log 20). -/
theorem State.WalkerReady.hasRead_eq (h : s.WalkerReady w k) (number : Nat) :
    (if (w.next != .repeatCard) = true then s.countTally w.slot .cardsRead else s).changeTicket w.slot
      (fun t => { t with lastCard := some number }) = s.hasRead w k number := by
  have hlengths := State.tallies_of_ticket h.ticket h.tallies
  cases hcounted : w.next != .repeatCard with
  | false =>
    simp only [State.changeTicket, State.hasRead, Ticket.hasRead, h.ticket, hcounted, Bool.false_eq_true, if_false]
    rfl
  | true =>
    have hput : (s.tallied w.slot 0).ticket w.slot =
        some { k with tallies := k.tallies.set 0 (k.count 0 + 1#32) } := by
      simp only [State.tallied, h.ticket]
      exact assocFind_put_self _ _ _
    rw [if_pos rfl, State.countTally_eq hlengths]
    simp only [Tally.place, State.changeTicket, hput, State.hasRead, Ticket.hasRead, hcounted, if_true]
    simp only [State.tallied, h.ticket, State.setTicket, State.onUnit, assocPut_put]

/-- A card that can be read is read: its count first, then its words (R62). -/
theorem State.BeforeCard.fetchCard {l : Link} {number : Nat} (h : s.BeforeCard w k l number) :
    s.fetchCard l (w.next != .repeatCard) = .card (s.hasRead w k number) (s.readCard number) number := by
  have hready := h.ready
  have hlimit : ¬ ((w.next != .repeatCard) = true ∧ k.cardLimit ≤ (k.tally .cardsRead).toNat) := by
    rintro ⟨hcounted, hreached⟩
    rcases h.limit with hrepeat | hbelow
    · simp [hrepeat] at hcounted
    · exact Nat.not_lt.mpr hreached hbelow
  have hreadable : (s.hasRead w k number).ram.anyFaulty (32 * number) 8 = false := by
    simpa [Ram.anyFaulty] using fun j hj => s.hasRead_faulty w k number (h.readable j hj)
  have hslot : ∀ t : State, t.walk = s.walk → t.walkSlot = w.slot := fun t ht => by
    rw [State.walkSlot, ht, ← State.walkSlot, hready.walkSlot]
  have hcount : (if (w.next != .repeatCard) = true then s.countTally w.slot .cardsRead else s).walk = s.walk := by
    split
    · exact (s.countTally_roster w.slot .cardsRead).2
    · rfl
  simp only [State.fetchCard, hready.walkTicket, h.resolves, hlimit, if_false, hready.walkSlot, hslot _ hcount,
    hready.hasRead_eq number, hreadable, Bool.false_eq_true, hready.hasRead_readCard number]

/-- A NULL link and a bad one are followed before any card is read (R59, R60). -/
theorem State.WalkerReady.fetchCard_null (h : s.WalkerReady w k) (counted : Bool) :
    s.fetchCard .null counted = .levelEnds := by
  simp only [State.fetchCard, h.walkTicket, State.resolveLink]

theorem State.WalkerReady.fetchCard_bad (h : s.WalkerReady w k) (b : BitVec 17) (counted : Bool) :
    s.fetchCard (.undefinedForm b) counted = .ended (s.endWalkAtCard .abridged .badLink k.lastCard) := by
  simp only [State.fetchCard, h.walkTicket, State.resolveLink]

/-! ## The steps (R61, R62, R78) -/

theorem NextStep.counted_eq {n : NextStep} (h : n ≠ .nextIteration) : (n == .nextCard) = (n != .repeatCard) := by
  cases n
  · rfl
  · rfl
  · contradiction

/-- The span of the walk holds the next link of the body in progress as its exit link (R59, R78). -/
def Walk.recordsExit (w : Walk) (c : Card) : Walk :=
  { w with span := w.span.map fun f => { f with exit := some (linkOfWord c.w4) } }

/-- The walk once a card has been read: a body that is read again records its exit link afresh (log 22). -/
def Walk.reads (w : Walk) (c : Card) : Walk :=
  { w with span := if w.body then w.span.map fun f => { f with exit := some (linkOfWord c.w4) } else w.span }

theorem Walk.reads_eq (w : Walk) (c : Card) : w.reads c = if w.body then w.recordsExit c else w := by
  simp only [Walk.reads, Walk.recordsExit]
  split <;> rfl

theorem State.recordExit_eq {t : State} (hw : t.walk = some w) (c : Card) :
    t.recordExit c = t.withWalk (some (w.recordsExit c)) := by
  rw [← State.withWalk_of_walk hw]
  rfl

theorem State.BeforeCard.stepCard {number : Nat} (h : s.BeforeCard w k w.link number) (hnext : w.next ≠ .nextIteration) :
    s.stepCard =
      ((s.hasRead w k number).withWalk (some (w.reads (s.readCard number)))).actOnCard (s.readCard number) number := by
  have hwalk : (s.hasRead w k number).walk = some w := h.ready.walk
  simp only [State.stepCard, h.ready.walkReady, hnext, if_false, NextStep.counted_eq hnext, h.fetchCard, Walk.reads_eq]
  split
  · rw [State.recordExit_eq hwalk]
  · rw [State.withWalk_of_walk hwalk]

theorem State.WalkerReady.stepCard_of_null (h : s.WalkerReady w k) (hnext : w.next ≠ .nextIteration)
    (hnull : w.link = .null) : s.stepCard = (s.withWalk (some w)).goTo (levelEnd w.stack w.span) := by
  simp only [State.stepCard, h.walkReady, hnext, if_false, hnull, h.fetchCard_null, State.withWalk_of_walk h.walk]

end Ready

end Sys2Proof.Machine

namespace Sys2Proof.ChangeChains
open Sys2Proof.Machine

/-- Settles O41: a card that can be read is counted and acts on its walk, and a NULL link ends the level. -/
theorem cardReadsActByKind : Obligations.CardReadsActByKind := by
  refine ⟨?card, ?null⟩
  case card =>
    intro s w k number h hnext c recorded
    have hlength := Ticket.hasRead_tallies h.ready.tallies (w.next != .repeatCard) number
    refine ⟨s.stepCard, rfl, ?_⟩
    rw [h.stepCard hnext]
    exact State.actOnCard_acts (w := recorded) (s.hasRead_ticket w k number) hlength c number
  case null =>
    intro s w k h hnext hnull
    refine ⟨s.stepCard, rfl, ?_⟩
    rw [h.stepCard_of_null hnext hnull, ← w.movesTo_levelEnd]
    exact s.goTo_reaches w _

end Sys2Proof.ChangeChains
end

section
/-! The iterations of a span: the read of the body, the test of its index, and the answer to its Q0 (R62, R66, R70, R75, R78
to R80, R83, R187). -/

namespace Sys2Proof.Machine

/-! ## The read of the body (R78, R80) -/

section Iteration

variable {s : State} {w : Walk} {k : Ticket} {f : SpanFrame}

/-- The body is counted as any card that is not repeated, and its next link is the exit link (R59, R62, R78). -/
theorem State.BeforeCard.stepIteration {number : Nat} (h : s.BeforeCard w k f.body number) (hnext : w.next = .nextIteration)
    (hspan : w.span = some f) (hlink : ∀ b, w.link ≠ .undefinedForm b) :
    let c := s.readCard number
    let g : SpanFrame := { f with exit := some (linkOfWord c.w4) }
    let t := (s.hasRead w k number).withWalk (some { w with span := some g })
    s.stepIteration =
      if s.directorySize ≤ f.current then t.goTo (g.leave w.stack)
      else
        (t.changeWalk fun w => { w with body := true, phase := .iterating c number }).onCache fun ca =>
          { ca with walkerRequest := some { index := f.current, op := .read [0], purpose := .spanTest } } := by
  intro c g t
  have hcounted : (w.next != .repeatCard) = true := by simp [hnext]
  have hfetch : s.fetchCard f.body true = .card (s.hasRead w k number) c number := hcounted ▸ h.fetchCard
  have hrecord : (s.hasRead w k number).recordExit c = t := by
    rw [State.recordExit_eq (t := s.hasRead w k number) h.ready.walk, Walk.recordsExit, hspan]
    rfl
  simp only [State.stepIteration, h.ready.walkReady, hspan, hnext, if_true, Walk.iterationLink_of_named f hlink, hfetch,
    hrecord]
  rfl

theorem State.WalkerReady.stepIteration_of_bad (h : s.WalkerReady w k) (hnext : w.next = .nextIteration)
    (hspan : w.span = some f) {b : BitVec 17} (hlink : w.link = .undefinedForm b) :
    s.stepIteration = (s.withWalk (some w)).endWalkAtCard .abridged .badLink k.lastCard := by
  simp only [State.stepIteration, h.walkReady, hspan, hnext, if_true, Walk.iterationLink_of_bad f hlink, hlink,
    h.fetchCard_bad, State.withWalk_of_walk h.walk]

theorem State.WalkerReady.stepIteration_of_null (h : s.WalkerReady w k) (hnext : w.next = .nextIteration)
    (hspan : w.span = some f) (hlink : ∀ b, w.link ≠ .undefinedForm b) (hnull : f.body = .null) :
    s.stepIteration = (s.withWalk (some w)).goTo (levelEnd w.stack w.span) := by
  simp only [State.stepIteration, h.walkReady, hspan, hnext, if_true, Walk.iterationLink_of_named f hlink, hnull,
    h.fetchCard_null, State.withWalk_of_walk h.walk]

/-! ## The answer to the span test (R78, R79) -/

theorem State.deliver_spanTest {c : Card} {number : Nat} {q : Request} (hq : q.purpose = .spanTest) (hw : s.walk = some w)
    (hphase : w.phase = .iterating c number) (a : BitVec 24) :
    (∀ ws qs, s.deliver q (.served ws qs) a = s.spanTested c number ws)
      ∧ s.deliver q .fault a = s.spanTestFaulted c number 0#24 := by
  constructor <;> simp [State.deliver, hq, State.answerSpanTest, State.walkPhase, hw, hphase]

/-- The tests of Q0's answer, once the span has its start department. -/
theorem State.spanTested_eq (hw : s.walk = some w) (hspan : w.span = some f) (c : Card) (number : Nat) (ws : List Word) :
    let start := f.startDepartment.getD (recordDepartment ws)
    let u := s.withWalk (some { w with span := some { f with startDepartment := some start } })
    s.spanTested c number ws =
      if f.untilDepartment = true ∧ recordDepartment ws ≠ start then u.goTo (f.leave w.stack)
      else if recordIdent ws = 0#24 then (u.reportWork w.slot .vacant none).completeCard c
      else if recordIdent ws = 0xFFFFFF#24 then u.refuseCard c number .badTarget f.current (recordIdent ws)
      else u.actOnCard c number := by
  intro start u
  have hu : (s.changeWalk fun w => { w with span := some { f with startDepartment := some start } }) = u := by
    rw [← State.withWalk_of_walk hw]
    rfl
  simp only [State.spanTested, hw, hspan, hu, start, Bool.and_eq_true, bne_iff_ne, Config.badIdentifier]

theorem State.spanTestFaulted_eq (hw : s.walk = some w) (hspan : w.span = some f) (c : Card) (number : Nat) :
    let u := (s.withWalk (some w)).reportWork w.slot .faulted (some (c.exception number .memoryFault f.current 0#24))
    s.spanTestFaulted c number 0#24 =
      if f.untilDepartment = true ∧ f.startDepartment = none then u.goTo (f.leave w.stack) else u.completeCard c := by
  intro u
  simp only [State.spanTestFaulted, hw, hspan, u, State.withWalk_of_walk hw, Bool.and_eq_true, Option.isNone_iff_eq_none]
  rfl

end Iteration

end Sys2Proof.Machine

namespace Sys2Proof.ChangeChains
open Sys2Proof.Machine

/-- Settles O42: the body is read as a card and its index tested, and Q0's answer ends the span, closes the card or lets the
body act. -/
theorem spanIterationsTestTheIndex : Obligations.SpanIterationsTestTheIndex := by
  refine ⟨?read, ?unread, ?answer⟩
  case read =>
    intro s w k f number h hnext hspan hlink c u g
    have hstep := h.stepIteration hnext hspan hlink
    refine ⟨fun hinside => ?_, fun hbeyond => ⟨s.stepIteration, rfl, ?_⟩⟩
    · exact congrArg Host.Outcome.next (hstep.trans (if_neg (Nat.not_le.mpr hinside)))
    · rw [hstep, if_pos hbeyond, ← w.movesTo_leave g w.stack]
      exact u.goTo_reaches { w with span := some g } (g.leave w.stack)
  case unread =>
    intro s w k f h hnext hspan
    refine ⟨fun ⟨b, hlink⟩ => ⟨s.stepIteration, rfl, ?_⟩, fun hlink hnull => ⟨s.stepIteration, rfl, ?_⟩⟩
    · rw [h.stepIteration_of_bad hnext hspan hlink]
      exact s.endWalkAtCard_stops w _ _ _
    · rw [h.stepIteration_of_null hnext hspan hlink hnull, ← w.movesTo_levelEnd]
      exact s.goTo_reaches w _
  case answer =>
    intro s w k f c number q ws qs a hq hw hphase hspan hk hlength t department start g v ident stays fault
    have hlengths := State.tallies_of_ticket hk hlength
    obtain ⟨hserved, hfaulted⟩ := State.deliver_spanTest hq hw hphase a
    have ht : t = _ := (hserved ws qs).trans (State.spanTested_eq hw hspan c number ws)
    have hstays : stays → ¬ (f.untilDepartment = true ∧ recordDepartment ws ≠ start) := by
      rintro (huntil | hsame) ⟨h, hother⟩
      · simp [huntil] at h
      · exact hother hsame
    rw [hfaulted, State.spanTestFaulted_eq hw hspan c number]
    refine ⟨fun huntil hother => ?_, fun hstay hvacant => ?_, fun hstay hdamaged => ?_, fun hstay hnamed hsound => ?_,
      fun huntil hnone => ?_, fun hgoes => ?_⟩
    · rw [ht.trans (if_pos ⟨huntil, hother⟩), ← v.movesTo_leave g w.stack]
      exact s.goTo_reaches v (g.leave w.stack)
    · rw [ht.trans ((if_neg (hstays hstay)).trans (if_pos hvacant))]
      exact State.reportWork_completesCard (w := v) hlengths c .vacant none
    · have hnamed : ident ≠ 0#24 := by rw [hdamaged]; decide
      rw [ht.trans ((if_neg (hstays hstay)).trans ((if_neg hnamed).trans (if_pos hdamaged)))]
      exact State.refuseCard_completesCard (w := v) hlengths c number .badTarget f.current _
    · rw [ht.trans ((if_neg (hstays hstay)).trans ((if_neg hnamed).trans (if_neg hsound)))]
      exact State.actOnCard_acts (w := v) hk hlength c number
    · rw [if_pos ⟨huntil, hnone⟩, State.reportWork_withWalk hlengths, ← w.movesTo_leave f w.stack]
      exact State.goTo_reaches _ w (f.leave w.stack)
    · rw [if_neg fun ⟨huntil, hnone⟩ => by simp [huntil, hnone] at hgoes]
      exact State.reportWork_completesCard hlengths c .faulted (some fault)

end Sys2Proof.ChangeChains
end

section
/-! The Price Engine: the prices as read, the four stages of an adjustment, the unit price and the partner (R85 to R96). -/

namespace Sys2Proof.Machine

/-! ## The prices as read (R85) -/

theorem priceRead_le (p : Nat) : priceRead p ≤ 9999999 := Nat.min_le_left ..

theorem EngineInput.reading_working_le (i : EngineInput) :
    i.reading.working.primary ≤ 9999999 ∧ i.reading.working.partner ≤ 9999999 ∧ i.reading.working.unit ≤ 9999999 := by
  refine ⟨priceRead_le _, ?_, priceRead_le _⟩
  cases hpanel : i.panel <;> simp [EngineInput.reading, hpanel, priceRead_le]

/-- A DIGIT label's partner is read as absent. -/
theorem EngineInput.reading_partner_of_digit {i : EngineInput} (h : i.panel = false) : i.reading.working.partner = 0 := by
  simp [EngineInput.reading, h]

/-! ## Ceiling, ending and floor (R91 to R93) -/

theorem ceilingStage_eq (raw : Int) : ceilingStage raw = (min raw 9999999, decide (9999999 < raw)) := by
  by_cases h : 9999999 < raw
  · simp [ceilingStage, Config.maxPrice, h, h.le]
  · simp [ceilingStage, Config.maxPrice, h, not_lt.mp h]

/-- The largest value at or below `v` that has the ending, or `v` itself with ending NONE. -/
def endingCandidate (ending : Word) (v : Int) : Int :=
  if ending = 0xFFFFFFFF#32 then v else v - (v - ending.toNat) % 100

theorem endingCandidate_le (ending : Word) (v : Int) : endingCandidate ending v ≤ v := by
  unfold endingCandidate
  split <;> omega

/-- There is no candidate below the ending. -/
theorem endingStage_eq (ending : Word) (v : Int) :
    endingStage ending v =
      if ending ≠ 0xFFFFFFFF#32 ∧ v < ending.toNat then none else some (endingCandidate ending v) := by
  by_cases hnone : ending = 0xFFFFFFFF#32
  · simp [endingStage, endingCandidate, allOnes, hnone]
  · by_cases hbelow : v < ending.toNat
    · simp [endingStage, allOnes, hnone, hbelow]
    · simp [endingStage, endingCandidate, allOnes, hnone, hbelow, not_lt.mp hbelow]

/-- The floor of an adjustment, 0 read as 1. -/
def Card.floorPrice (c : Card) : Int := max 1 c.w16.toNat

/-- The candidate of a raw result. -/
def Card.candidate (c : Card) (raw : Int) : Int := endingCandidate c.w12 (min raw 9999999)

/-- The floor takes the place of the candidate of a raw result. -/
def Card.floors (c : Card) (raw : Int) : Bool :=
  c.w12 != 0xFFFFFFFF#32 && decide (min raw 9999999 < c.w12.toNat) || decide (c.candidate raw < c.floorPrice)
    || decide (raw < c.floorPrice)

/-- The price an adjustment comes to. -/
def Card.adjusted (c : Card) (raw : Int) : Nat := (if c.floors raw then c.floorPrice else c.candidate raw).toNat

theorem Card.floorPrice_toNat (c : Card) : c.floorPrice.toNat = max 1 c.w16.toNat := by
  unfold Card.floorPrice
  omega

/-- The adjustment clamps: at the floor, or at the ceiling. -/
def Card.clamps (c : Card) (raw : Int) : Bool := c.floors raw || decide (9999999 < raw)

theorem Card.clamps_iff (c : Card) (raw : Int) : c.clamps raw = true ↔ c.floors raw = true ∨ 9999999 < raw := by
  simp [Card.clamps]

/-- The four stages in one. -/
theorem adjustedPrice_eq (c : Card) (raw : Int) : adjustedPrice c raw = (c.adjusted raw, c.clamps raw) := by
  rw [Card.clamps, Bool.or_comm]
  have hfloor : (↑(max 1 c.w16.toNat) : Int) = c.floorPrice := by
    unfold Card.floorPrice
    omega
  by_cases hnone : c.w12 ≠ 0xFFFFFFFF#32 ∧ min raw 9999999 < c.w12.toNat
  · have hfloors : c.floors raw = true := by simp [Card.floors, hnone.1, hnone.2]
    simp only [adjustedPrice, ceilingStage_eq, endingStage_eq, if_pos hnone, floorStage, Card.adjusted, hfloors, if_true,
      Card.floorPrice_toNat]
  · have hfloors : c.floors raw = decide (c.candidate raw < c.floorPrice ∨ raw < c.floorPrice) := by
      rw [Card.floors, Bool.decide_or, Bool.or_assoc, ← Bool.false_or (decide _ || decide _)]
      congr 1
      simpa using hnone
    have hcandidate : endingCandidate c.w12 (min raw 9999999) = c.candidate raw := rfl
    simp only [adjustedPrice, ceilingStage_eq, endingStage_eq, if_neg hnone, floorStage, hfloor, hcandidate, Card.adjusted,
      hfloors, decide_eq_true_eq]
    by_cases hlow : c.candidate raw < c.floorPrice ∨ raw < c.floorPrice
    · simp only [if_pos hlow, Card.floorPrice_toNat, decide_eq_true hlow]
    · simp only [if_neg hlow, decide_eq_false hlow]

/-- The new price of an adjustment lies from the floor to the highest price. -/
theorem Card.adjusted_range {c : Card} (hfloor : c.w16.toNat ≤ 9999999) (raw : Int) :
    1 ≤ c.adjusted raw ∧ c.adjusted raw ≤ 9999999 := by
  have hle : c.candidate raw ≤ min raw 9999999 := endingCandidate_le _ _
  have hprice : 1 ≤ c.floorPrice ∧ c.floorPrice ≤ 9999999 := by
    unfold Card.floorPrice
    omega
  unfold Card.adjusted
  split
  case isTrue => omega
  case isFalse h =>
    simp only [Card.floors, Bool.or_eq_true, decide_eq_true_eq, not_or] at h
    omega

/-! ## Unit price and partner (R94 to R96) -/

theorem unitPrice_eq (basis : UnitBasis) (net p : Nat) :
    let u := (p * basis.reference + net / 2) / net
    unitPrice basis net p =
      (if basis = .none ∨ net = 0 then 0 else if 9999999 < u then 9999999 else if u = 0 then 1 else u,
        decide (¬ (basis = .none ∨ net = 0) ∧ 9999999 < u)) := by
  intro u
  by_cases habsent : basis = .none ∨ net = 0
  · simp [unitPrice, habsent]
  · have hu : unitPrice basis net p = if 9999999 < u then (9999999, true) else if u = 0 then (1, false) else (u, false) :=
      if_neg habsent
    rw [hu, if_neg habsent]
    by_cases hheld : 9999999 < u
    · simp only [hheld, habsent, if_true, not_false_iff, true_and, decide_true]
    · simp only [hheld, if_false, and_false, decide_false]
      split <;> rfl

theorem unitPrice_le (basis : UnitBasis) (net p : Nat) : (unitPrice basis net p).1 ≤ 9999999 := by
  rw [unitPrice_eq]
  dsimp only
  split_ifs <;> omega

/-- The twin rule, for a working image as read. -/
theorem adjustPartner_eq {i : EngineInput} (hdigit : i.panel = false → i.working.partner = 0) :
    let raw := rawAdjust i.kind i.card i.working.partner
    let twins := i.card.twin && i.working.partner != 0
    adjustPartner i = (if twins then i.card.adjusted raw else i.working.partner, twins && i.card.clamps raw) := by
  unfold adjustPartner
  rw [adjustedPrice_eq]
  cases hpanel : i.panel with
  | false => simp [hdigit hpanel]
  | true => by_cases htwin : i.card.twin = true <;> by_cases hzero : i.working.partner = 0 <;> simp [htwin, hzero]

theorem adjustPartner_le {i : EngineInput} (hfloor : i.card.w16.toNat ≤ 9999999) (hworking : i.working.partner ≤ 9999999)
    (hdigit : i.panel = false → i.working.partner = 0) : (adjustPartner i).1 ≤ 9999999 := by
  rw [adjustPartner_eq hdigit]
  dsimp only
  split
  · exact (Card.adjusted_range hfloor _).2
  · exact hworking

theorem pricePartner_eq (i : EngineInput) :
    pricePartner i =
      if i.panel = false then 0
      else if i.card.twin = false ∨ i.card.w12 = allOnes then i.working.partner else i.card.w12.toNat := by
  unfold pricePartner
  cases i.panel <;> cases i.card.twin <;> simp

end Sys2Proof.Machine
end

section
/-! What one evaluation of the Price Engine answers, by its kind, and the range of what it answers (R85 to R101). -/

namespace Sys2Proof.Machine

/-! ## The operands of the kinds that set a price (R65) -/

/-- The two kinds that adjust a price. -/
abbrev CardKind.adjusts (kind : CardKind) : Prop := kind = .adjustPercent ∨ kind = .adjustAmount

theorem Card.price_operands {c : Card} (h : c.operandsInRange .price = true) :
    (1 ≤ c.w8.toNat ∧ c.w8.toNat ≤ 9999999) ∧ (c.twin = false ∨ c.w12 = allOnes ∨ c.w12.toNat ≤ 9999999) := by
  simp only [Card.operandsInRange, between, Bool.and_eq_true, Bool.or_eq_true, decide_eq_true_eq, Bool.not_eq_true',
    beq_iff_eq, or_assoc] at h
  obtain ⟨⟨-, hprice⟩, hpartner⟩ := h
  exact ⟨by omega, hpartner⟩

theorem Card.adjust_floor_le {c : Card} {kind : CardKind} (hkind : kind.adjusts) (h : c.operandsInRange kind = true) :
    c.w16.toNat ≤ 9999999 := by
  rcases hkind with rfl | rfl <;>
  · simp only [Card.operandsInRange, Bool.and_eq_true, decide_eq_true_eq] at h
    exact h.2

/-! ## The tentative image by kind (R86) -/

section Kinds

variable {i : EngineInput}

theorem tentative_of_price (hkind : i.kind = .price) :
    tentative i =
      Tentative.of i.working
        { primary := i.card.w8.toNat, partner := pricePartner i, unit := (unitPrice i.basis i.net i.card.w8.toNat).1,
          badges := i.working.badges }
        i.card.w8.toNat (unitPrice i.basis i.net i.card.w8.toNat).2 := by
  simp only [tentative, hkind]

theorem tentative_of_adjusts (hkind : i.kind.adjusts) :
    let raw := rawAdjust i.kind i.card i.working.primary
    let p := i.card.adjusted raw
    tentative i =
      Tentative.of i.working
        { primary := p, partner := (adjustPartner i).1, unit := (unitPrice i.basis i.net p).1,
          badges := i.working.badges }
        raw (i.card.clamps raw || (adjustPartner i).2 || (unitPrice i.basis i.net p).2) := by
  rcases hkind with hkind | hkind <;> simp only [tentative, hkind, adjustedPrice_eq]

theorem tentative_of_badge (hkind : i.kind = .badge) :
    tentative i =
      { image := { i.working with badges := badgesAfter i.card i.working.badges }, raw := i.working.primary, down := false,
        up := false, clamped := false } := by
  simp only [tentative, hkind]

/-! ## Base check, badge test and guard (R87, R97, R98) -/

/-- The guard of a card holds back a change of the primary from `old` to `new`. -/
def Card.guardFails (c : Card) (old new : Nat) : Prop := c.guardCode = 1 ∧ old ≤ new ∨ c.guardCode = 2 ∧ new ≤ old

theorem guardPasses_of_eq_false_iff (hkind : i.kind ≠ .badge) (new : Image) (raw : Int) (clamped : Bool) :
    guardPasses i (.of i.working new raw clamped) = false ↔ i.card.guardFails i.working.primary new.primary := by
  rw [guardPasses, if_neg hkind, Card.guard, Card.guardFails]
  by_cases hdown : i.card.guardCode = 1
  · simp [hdown, Tentative.of]
  by_cases hup : i.card.guardCode = 2
  · simp [hup, Tentative.of]
  · simp [hdown, hup]

theorem guardPasses_of_badge (hkind : i.kind = .badge) (t : Tentative) : guardPasses i t = true := if_pos hkind

theorem badgeTestMatches_iff (c : Card) (b : BitVec 8) :
    badgeTestMatches c b = true ↔ b &&& c.w8.extractLsb' 24 8 = c.w12.extractLsb' 0 8 := beq_iff_eq

theorem evaluate_of_unpriced_adjust (hkind : i.kind.adjusts) (hbase : i.reading.working.primary = 0) :
    evaluate i = .badBase := if_pos ⟨hbase, hkind⟩

/-- A BADGE card stops at a primary of 0 and at a test that does not match. -/
theorem evaluate_of_badge_unmatched (hkind : i.kind = .badge)
    (h : i.reading.working.primary = 0 ∨ badgeTestMatches i.card i.reading.working.badges = false) :
    evaluate i = .notApplied := by
  have hadjust : ¬ i.kind.adjusts := by simp [CardKind.adjusts, hkind]
  exact (if_neg fun hbase => hadjust hbase.2).trans (if_pos ⟨hkind, h⟩)

/-- Past base check and badge test, the tentative image meets the guard and the comparison with the working image. -/
theorem evaluate_eq_of_passed (hbase : ¬ (i.reading.working.primary = 0 ∧ i.kind.adjusts))
    (hbadge : ¬ (i.kind = .badge ∧
      (i.reading.working.primary = 0 ∨ badgeTestMatches i.card i.reading.working.badges = false))) :
    let t := tentative i.reading
    evaluate i =
      if guardPasses i.reading t = false then .notApplied
      else if t.image = i.reading.working then .same else .newImage t.image t.clamped t.raw := by
  intro t
  refine (if_neg hbase).trans ((if_neg hbadge).trans ?_)
  simp only [Bool.not_eq_true']
  rfl

/-! ## The answers (R98 to R100) -/

/-- The answers that a tentative image with these indicators comes to. -/
def EngineInput.answers (i : EngineInput) (new : Image) (clamps : Prop) (raw : Int) : Prop :=
  let working := i.reading.working
  let fails := i.card.guardFails working.primary new.primary
  (fails → evaluate i = .notApplied) ∧ (¬ fails → new = working → evaluate i = .same)
    ∧ (¬ fails → new ≠ working → ∃ clamped, evaluate i = .newImage new clamped raw ∧ (clamped = true ↔ clamps))

/-- A kind with a guard, past its base check, answers by its tentative image. -/
theorem EngineInput.answers_of_tentative {new : Image} {raw : Int} {clamped : Bool} {clamps : Prop}
    (hkind : i.kind ≠ .badge) (hbase : ¬ (i.reading.working.primary = 0 ∧ i.kind.adjusts))
    (ht : tentative i.reading = .of i.reading.working new raw clamped) (hclamps : clamped = true ↔ clamps) :
    i.answers new clamps raw := by
  have hguard : guardPasses i.reading (tentative i.reading) = false ↔ _ :=
    ht ▸ guardPasses_of_eq_false_iff (i := i.reading) hkind new raw clamped
  have heval := evaluate_eq_of_passed hbase fun h => hkind h.1
  refine ⟨fun hfails => ?_, fun hpasses hsame => ?_, fun hpasses hnew => ⟨clamped, ?_, hclamps⟩⟩
  · rw [heval, if_pos (hguard.mpr hfails)]
  · rw [heval, if_neg (mt hguard.mp hpasses), ht]
    exact if_pos hsame
  · rw [heval, if_neg (mt hguard.mp hpasses), ht]
    exact if_neg hnew

/-- A BADGE card that matches a priced label answers by the badges it makes. -/
theorem evaluate_of_badge_matched (hkind : i.kind = .badge) (hpriced : i.reading.working.primary ≠ 0)
    (hmatch : badgeTestMatches i.card i.reading.working.badges = true) :
    let working := i.reading.working
    let new : Image := { working with badges := badgesAfter i.card working.badges }
    evaluate i = if new = working then .same else .newImage new false working.primary := by
  have ht := tentative_of_badge (i := i.reading) hkind
  have heval := evaluate_eq_of_passed (i := i) (fun h => hpriced h.1) (by simp [hpriced, hmatch])
  rw [heval, guardPasses_of_badge (i := i.reading) hkind, ht]
  rfl

/-! ## The price range (R101) -/

/-- A primary of at least 1, and no price above the highest. -/
def Image.inPriceRange (im : Image) : Prop :=
  (1 ≤ im.primary ∧ im.primary ≤ 9999999) ∧ im.partner ≤ 9999999 ∧ im.unit ≤ 9999999

theorem tentative_inPriceRange_of_price (hkind : i.kind = .price) (hrange : i.card.operandsInRange .price = true)
    (hworking : i.working.partner ≤ 9999999) : (tentative i).image.inPriceRange := by
  obtain ⟨hprice, hpartner⟩ := Card.price_operands hrange
  rw [tentative_of_price hkind]
  refine ⟨hprice, ?_, unitPrice_le ..⟩
  change pricePartner i ≤ 9999999
  rw [pricePartner_eq]
  split_ifs with hpanel hkept
  · omega
  · exact hworking
  · tauto

theorem tentative_inPriceRange_of_adjusts (hkind : i.kind.adjusts) (hrange : i.card.operandsInRange i.kind = true)
    (hworking : i.working.partner ≤ 9999999) (hdigit : i.panel = false → i.working.partner = 0) :
    (tentative i).image.inPriceRange := by
  have hfloor := Card.adjust_floor_le hkind hrange
  rw [tentative_of_adjusts hkind]
  exact ⟨Card.adjusted_range hfloor _, adjustPartner_le hfloor hworking hdigit, unitPrice_le ..⟩

/-- A new image is the tentative one, and a BADGE card gives one only to a label that has a price. -/
theorem evaluate_eq_newImage {im : Image} {clamped : Bool} {raw : Int} (h : evaluate i = .newImage im clamped raw) :
    im = (tentative i.reading).image ∧ (i.kind = .badge → i.reading.working.primary ≠ 0) := by
  by_cases hbase : i.reading.working.primary = 0 ∧ i.kind.adjusts
  · simp [evaluate_of_unpriced_adjust hbase.2 hbase.1] at h
  by_cases hbadge : i.kind = .badge ∧
      (i.reading.working.primary = 0 ∨ badgeTestMatches i.card i.reading.working.badges = false)
  · simp [evaluate_of_badge_unmatched hbadge.1 hbadge.2] at h
  rw [evaluate_eq_of_passed hbase hbadge] at h
  split_ifs at h
  cases h
  exact ⟨rfl, fun hkind hzero => hbadge ⟨hkind, .inl hzero⟩⟩

end Kinds

end Sys2Proof.Machine

namespace Sys2Proof.PriceEngine
open Sys2Proof.Machine

/-- Settles O50: the new image is the tentative one, whose prices the stages of each kind keep in the range. -/
theorem newImagesStayInThePriceRange : Obligations.NewImagesStayInThePriceRange := by
  intro i im clamped raw htargeting hrange h
  obtain ⟨rfl, hpriced⟩ := evaluate_eq_newImage h
  obtain ⟨hprimary, hpartner, hunit⟩ := i.reading_working_le
  have hadjusts (hkind : i.kind.adjusts) : (tentative i.reading).image.inPriceRange :=
    tentative_inPriceRange_of_adjusts (i := i.reading) hkind hrange hpartner (EngineInput.reading_partner_of_digit (i := i))
  cases hkind : i.kind with
  | price => exact tentative_inPriceRange_of_price (i := i.reading) hkind (hkind ▸ hrange) hpartner
  | adjustPercent => exact hadjusts (.inl hkind)
  | adjustAmount => exact hadjusts (.inr hkind)
  | badge =>
    rw [tentative_of_badge (i := i.reading) hkind]
    exact ⟨⟨Nat.pos_of_ne_zero (hpriced hkind), hprimary⟩, hpartner, hunit⟩
  | _ => simp [hkind, CardKind.targeting] at htargeting

/-- Settles O51: each kind answers by its tentative image, whose fields are those of the stages. -/
theorem adjustmentsPassFourStages : Obligations.AdjustmentsPassFourStages := by
  intro i _ price working reference perUnit noUnit unit unitHeld twin guard fails answers raw ending floor carried candidate
    floored adjusted clamps
  have hreference : i.basis.reference = reference := by
    dsimp only [reference]
    cases i.basis <;> rfl
  have hunitPrice (p : Nat) : unitPrice i.basis i.net p = (unit p, decide (unitHeld p)) := by
    have h := unitPrice_eq i.basis i.net p
    rw [hreference] at h
    exact h
  have hunit (p : Nat) : unit p = (unitPrice i.basis i.net p).1 := (congrArg Prod.fst (hunitPrice p)).symm
  have hheld (p : Nat) : (unitPrice i.basis i.net p).2 = true ↔ unitHeld p := by rw [hunitPrice, decide_eq_true_iff]
  have hpartner := EngineInput.reading_partner_of_digit (i := i)
  refine ⟨fun hkind => ⟨evaluate_of_unpriced_adjust hkind, ?adjust⟩, ?price, ?badge⟩
  case adjust =>
    intro hpriced p twins
    have hbadge : i.kind ≠ .badge := by rcases hkind with h | h <;> simp [h]
    have ht := tentative_of_adjusts (i := i.reading) hkind
    rw [adjustPartner_eq hpartner] at ht
    change i.answers ⟨p, _, unit p, _⟩ _ _
    rw [hunit]
    refine EngineInput.answers_of_tentative hbadge (fun h => hpriced h.1) ht ?_
    rw [Bool.or_eq_true, Bool.or_eq_true, Bool.and_eq_true, Bool.and_eq_true, bne_iff_ne, Card.clamps_iff, Card.clamps_iff,
      or_assoc]
    exact or_congr_right (or_congr_right (hheld p))
  case price =>
    intro hkind p
    have hbadge : i.kind ≠ .badge := by simp [hkind]
    have ht := tentative_of_price (i := i.reading) hkind
    rw [pricePartner_eq] at ht
    change i.answers ⟨p, _, unit p, _⟩ _ _
    rw [hunit]
    exact EngineInput.answers_of_tentative hbadge (by simp [hkind]) ht (hheld p)
  case badge =>
    intro hkind b matched new
    have hmatch : badgeTestMatches i.card b = true ↔ matched := badgeTestMatches_iff i.card b
    refine ⟨fun h => evaluate_of_badge_unmatched hkind (h.imp_right fun h => Bool.eq_false_iff.mpr (mt hmatch.mp h)),
      fun hpriced hb hsame => ?_, fun hpriced hb hnew => ?_⟩
    · exact (evaluate_of_badge_matched hkind hpriced (hmatch.mpr hb)).trans (if_pos hsame)
    · exact (evaluate_of_badge_matched hkind hpriced (hmatch.mpr hb)).trans (if_neg hnew)

end Sys2Proof.PriceEngine
end

section
/-! Digit strings: the seven digits of a price, and the BLANKs that stand for its leading zeros (R102). -/

namespace Sys2Proof.Machine

/-! ## The blanking of leading zeros -/

theorem length_blankLeading (n : Nat) (ds : List Nat) : (blankLeading n ds).length = ds.length := by
  induction ds generalizing n with
  | nil => cases n <;> rfl
  | cons d ds ih =>
    cases n with
    | zero => rfl
    | succ n =>
      rw [blankLeading]
      split <;> simp [ih]

/-- A position is blanked when it is one of the first `n` and holds, as every one to its left, a zero. -/
theorem getElem?_blankLeading (n : Nat) (ds : List Nat) {p : Nat} (hp : p < ds.length) :
    (blankLeading n ds)[p]? = if p < n ∧ (ds.take (p + 1)).all (· == 0) = true then some 15 else ds[p]? := by
  induction ds generalizing n p with
  | nil => simp at hp
  | cons d ds ih =>
    cases n with
    | zero => simp [blankLeading]
    | succ n =>
      rw [blankLeading]
      by_cases hd : d = 0
      · cases p with
        | zero => simp [hd]
        | succ p => simp [hd, ih n (Nat.lt_of_succ_lt_succ hp)]
      · simp [hd]

theorem mem_blankLeading {n : Nat} {ds : List Nat} {d : Nat} (h : d ∈ blankLeading n ds) : d ∈ ds ∨ d = 15 := by
  induction ds generalizing n with
  | nil => cases n <;> exact .inl h
  | cons e ds ih =>
    cases n with
    | zero => exact .inl h
    | succ n =>
      rw [blankLeading] at h
      split at h
      · rcases List.mem_cons.mp h with rfl | h
        · exact .inr rfl
        · exact (ih h).imp_left (List.mem_cons_of_mem e)
      · exact .inl h

/-! ## The seven digits of a price -/

section Digits

variable {m : Nat} (hm : m ≤ 9999999)
include hm

theorem getElem?_sevenDigits {p : Nat} (hp : p < 7) : (sevenDigits m)[p]? = some (m / 10 ^ (6 - p) % 10) := by
  have hfirst : m / 1000000 % 10 = m / 1000000 := by omega
  interval_cases p <;> simp [sevenDigits, hfirst]

/-- Only zeros stand in the first places when the price does not reach them. -/
theorem sevenDigits_take_zero_iff {p : Nat} (hp : p < 7) :
    ((sevenDigits m).take (p + 1)).all (· == 0) = true ↔ m / 10 ^ (6 - p) = 0 := by
  interval_cases p <;> simp [sevenDigits] <;> omega

theorem sevenDigits_le_nine {d : Nat} (hd : d ∈ sevenDigits m) : d ≤ 9 := by
  simp only [sevenDigits, List.mem_cons, List.not_mem_nil, or_false] at hd
  omega

end Digits

end Sys2Proof.Machine

namespace Sys2Proof.PriceEngine
open Sys2Proof.Machine

/-- Settles O52: the seven digits, of which the leading zeros of the first four places are blanked. -/
theorem digitStringsBlankLeadingZeros : Obligations.DigitStringsBlankLeadingZeros := by
  refine ⟨fun m hm => ⟨length_blankLeading .., fun p hp => ?_, fun d hd => ?_⟩, fun m hm => if_neg (by omega), rfl⟩
  · have hlength : p < (sevenDigits m).length := hp
    simp only [digitString, getElem?_blankLeading 4 _ hlength, sevenDigits_take_zero_iff hm hp,
      getElem?_sevenDigits hm hp, apply_ite some]
  · exact (mem_blankLeading hd).imp_left (sevenDigits_le_nine hm)

end Sys2Proof.PriceEngine
end

section
/-! The map's promise, that no index has two entries (R107, R108), and the acts that leave it as it is. -/

namespace Sys2Proof.Machine

/-! ## The promise (R107, R108) -/

/-- The promise in terms of the indexes that the entries name. -/
theorem State.oneEntryEach_iff (s : State) :
    s.oneEntryEach = true ↔ (s.roster.entries.map (·.index)).Nodup
      ∧ ∀ n, s.roster.newEntry = some n → n.index ∉ s.roster.entries.map (·.index) := by
  cases h : s.roster.newEntry with
  | none => simp [State.oneEntryEach, h]
  | some n => simp [State.oneEntryEach, h]

@[simp] theorem State.oneEntryEach_ite (c : Prop) [Decidable c] (s t : State) :
    (if c then s else t).oneEntryEach = if c then s.oneEntryEach else t.oneEntryEach :=
  apply_ite State.oneEntryEach c s t

/-- A run of acts that each leave the promise leaves it. -/
theorem foldl_oneEntryEach {α : Type} {f : State → α → State} (hf : ∀ s a, (f s a).oneEntryEach = s.oneEntryEach)
    (l : List α) (s : State) : (l.foldl f s).oneEntryEach = s.oneEntryEach := by
  induction l generalizing s with
  | nil => rfl
  | cons a rest ih => rw [List.foldl_cons, ih, hf]

theorem State.oneEntryEach_of_roster {s t : State} (h : t.roster = s.roster) : t.oneEntryEach = s.oneEntryEach := by
  simp only [State.oneEntryEach, h]

/-! ## Updates of the blocks -/

@[simp] theorem State.blockUpdates_oneEntryEach (s : State) :
    (∀ f, (s.onHost f).oneEntryEach = s.oneEntryEach) ∧ (∀ f, (s.onRam f).oneEntryEach = s.oneEntryEach)
      ∧ (∀ f, (s.onTime f).oneEntryEach = s.oneEntryEach) ∧ (∀ f, (s.onUnit f).oneEntryEach = s.oneEntryEach)
      ∧ (∀ f, (s.onAir f).oneEntryEach = s.oneEntryEach) ∧ (∀ f, (s.onCache f).oneEntryEach = s.oneEntryEach)
      ∧ (∀ w, (s.withWalk w).oneEntryEach = s.oneEntryEach) ∧ (∀ l, (s.withLoad l).oneEntryEach = s.oneEntryEach)
      ∧ (∀ p, (s.withLoader p).oneEntryEach = s.oneEntryEach)
      ∧ ∀ q, (s.withPending q).oneEntryEach = s.oneEntryEach := by
  refine ⟨?_, ?_, ?_, ?_, ?_, ?_, ?_, ?_, ?_, ?_⟩ <;> intros <;> rfl

/-- Entries changed at their places, each with its index, leave the promise. -/
theorem State.mapEntries_oneEntryEach {s : State} {f : Entry → Entry} (hf : ∀ e, (f e).index = e.index) :
    (s.onRoster fun r => { r with entries := r.entries.map f }).oneEntryEach = s.oneEntryEach := by
  simp [State.oneEntryEach, State.onRoster, Function.comp_def, hf, List.all_map]

@[simp] theorem State.changeEntry_oneEntryEach {s : State} {i : Nat} {f : Entry → Entry}
    (hf : ∀ e, (f e).index = e.index) : (s.changeEntry i f).oneEntryEach = s.oneEntryEach :=
  State.mapEntries_oneEntryEach fun e => by split <;> simp [hf]

@[simp] theorem State.awaitRemovals_oneEntryEach (s : State) (n : Nat) :
    (s.awaitRemovals n).oneEntryEach = s.oneEntryEach :=
  State.mapEntries_oneEntryEach fun e => by rw [Entry.awaited_eq]; split <;> rfl

@[simp] theorem State.enterTurns_oneEntryEach (s : State) (l : List Nat) :
    (s.enterTurns l).oneEntryEach = s.oneEntryEach :=
  State.mapEntries_oneEntryEach fun e => by split <;> rfl

/-! ## Named updates that leave the roster alone -/

@[simp] theorem State.hostUpdates_oneEntryEach (s : State) :
    (∀ c, (s.latch c).oneEntryEach = s.oneEntryEach)
      ∧ (∀ r, (s.finishCommand r).oneEntryEach = s.oneEntryEach)
      ∧ (∀ c, (s.beginCommand c).oneEntryEach = s.oneEntryEach)
      ∧ (∀ r, (s.giveResult r).oneEntryEach = s.oneEntryEach)
      ∧ (∀ c, (s.nameCommand c).oneEntryEach = s.oneEntryEach)
      ∧ (∀ c r, (s.refuse c r).oneEntryEach = s.oneEntryEach)
      ∧ (∀ v, (s.clearAttention v).oneEntryEach = s.oneEntryEach)
      ∧ ∀ v, (s.setEnables v).oneEntryEach = s.oneEntryEach := by
  refine ⟨?_, ?_, ?_, ?_, ?_, ?_, ?_, ?_⟩ <;> intros <;> rfl

@[simp] theorem State.latchIf_oneEntryEach (s : State) (b : Bool) (c : Cause) :
    (s.latchIf b c).oneEntryEach = s.oneEntryEach := by simp [State.latchIf]

@[simp] theorem State.boardUpdates_oneEntryEach (s : State) :
    (∀ a w, (s.putWord a w).oneEntryEach = s.oneEntryEach) ∧ (∀ a w, (s.ramWrite a w).oneEntryEach = s.oneEntryEach)
      ∧ (∀ n t, (s.setTicket n t).oneEntryEach = s.oneEntryEach)
      ∧ (∀ n, (s.dropTicket n).oneEntryEach = s.oneEntryEach)
      ∧ (∀ n off w, (s.putTicketWord n off w).oneEntryEach = s.oneEntryEach)
      ∧ (∀ n l, (s.putFields n l).oneEntryEach = s.oneEntryEach)
      ∧ (∀ now, (s.markExpiries now).oneEntryEach = s.oneEntryEach) ∧ s.startSweep.oneEntryEach = s.oneEntryEach := by
  refine ⟨?_, ?_, ?_, ?_, ?_, ?_, ?_, ?_⟩ <;> intros <;> rfl

@[simp] theorem State.walkUpdates_oneEntryEach (s : State) :
    (∀ f, (s.changeWalk f).oneEntryEach = s.oneEntryEach) ∧ s.reportRoom.oneEntryEach = s.oneEntryEach
      ∧ (∀ i, (s.reportTurnEnd i).oneEntryEach = s.oneEntryEach)
      ∧ (∀ app, (s.requestRecord app).oneEntryEach = s.oneEntryEach)
      ∧ ∀ c, (s.recordExit c).oneEntryEach = s.oneEntryEach := by
  refine ⟨?_, ?_, ?_, ?_, ?_⟩ <;> intros <;> rfl

@[simp] theorem State.airUpdates_oneEntryEach (s : State) :
    (∀ b, (s.keyFrame b).oneEntryEach = s.oneEntryEach) ∧ s.unkey.oneEntryEach = s.oneEntryEach
      ∧ (∀ g, (s.setStage g).oneEntryEach = s.oneEntryEach) ∧ (∀ n, (s.closeTurn n).oneEntryEach = s.oneEntryEach)
      ∧ (∀ n c, (s.turnRead n c).oneEntryEach = s.oneEntryEach) ∧ s.dropAwaitedTurns.oneEntryEach = s.oneEntryEach
      ∧ (∀ i d, (s.askDelivery i d).oneEntryEach = s.oneEntryEach)
      ∧ s.refreshRush.oneEntryEach = s.oneEntryEach ∧ (∀ v, (s.setStoreTime v).oneEntryEach = s.oneEntryEach)
      ∧ s.completeHalt.oneEntryEach = s.oneEntryEach ∧ s.tripKeyMonitor.oneEntryEach = s.oneEntryEach
      ∧ s.tick.oneEntryEach = s.oneEntryEach := by
  refine ⟨?_, ?_, ?_, ?_, ?_, ?_, ?_, ?_, ?_, ?_, ?_, ?_⟩ <;> intros <;> rfl

@[simp] theorem State.askAir_oneEntryEach (s : State) (r : Request) : (s.askAir r).oneEntryEach = s.oneEntryEach := rfl

/-! ## Tickets and their reports -/

@[simp] theorem State.changeTicket_oneEntryEach (s : State) (n : Nat) (f : Ticket → Ticket) :
    (s.changeTicket n f).oneEntryEach = s.oneEntryEach := by
  unfold State.changeTicket; split <;> simp

@[simp] theorem State.settleUnheld_oneEntryEach (s : State) (n : Nat) (o : TicketOutcome) (r : Reason) :
    (s.settleUnheld n o r).oneEntryEach = s.oneEntryEach := by simp [State.settleUnheld_eq]

@[simp] theorem State.settle_oneEntryEach (s : State) (n : Nat) : (s.settle n).oneEntryEach = s.oneEntryEach := by
  unfold State.settle; split <;> simp [State.putTallies_eq, State.putSettlement_eq]

@[simp] theorem State.reportDelivery_oneEntryEach (s : State) (n : Nat) (k : Tally) (e : Option ExceptionEntry) :
    (s.reportDelivery n k e).oneEntryEach = s.oneEntryEach :=
  State.oneEntryEach_of_roster (s.reportDelivery_roster n k e).1

@[simp] theorem State.countTally_oneEntryEach (s : State) (n : Nat) (k : Tally) :
    (s.countTally n k).oneEntryEach = s.oneEntryEach := State.oneEntryEach_of_roster (s.countTally_roster n k).1

@[simp] theorem State.reportWork_oneEntryEach (s : State) (n : Nat) (k : Tally) (e : Option ExceptionEntry) :
    (s.reportWork n k e).oneEntryEach = s.oneEntryEach := by
  rw [State.reportWork, State.countTally_oneEntryEach]
  exact State.oneEntryEach_of_roster (s.writeExceptionOf_roster n e).1

/-! ## Expiry, cancellation and deferred actions -/

@[simp] theorem State.finishCancel_oneEntryEach (s : State) : s.finishCancel.oneEntryEach = s.oneEntryEach := by
  unfold State.finishCancel; split <;> simp

@[simp] theorem State.beginRemoval_oneEntryEach (s : State) (i : Nat) (c : Closing) :
    (s.beginRemoval i c).oneEntryEach = s.oneEntryEach := by simp [State.beginRemoval]

@[simp] theorem State.expireEntry_oneEntryEach (s : State) (i : Nat) :
    (s.expireEntry i).oneEntryEach = s.oneEntryEach := by
  unfold State.expireEntry; split
  · rfl
  next e _ => cases e.state <;> simp

@[simp] theorem State.cancelEntry_oneEntryEach (s : State) (i : Nat) :
    (s.cancelEntry i).oneEntryEach = s.oneEntryEach := by
  unfold State.cancelEntry; split
  · rfl
  next e _ => cases e.state <;> simp

@[simp] theorem State.expireEntries_oneEntryEach (s : State) (n : Nat) :
    (s.expireEntries n).oneEntryEach = s.oneEntryEach := foldl_oneEntryEach State.expireEntry_oneEntryEach _ s

@[simp] theorem State.cancelEntries_oneEntryEach (s : State) (n : Nat) :
    (s.cancelEntries n).oneEntryEach = s.oneEntryEach := by
  simp [State.cancelEntries, foldl_oneEntryEach State.cancelEntry_oneEntryEach]

@[simp] theorem State.deferredActions_oneEntryEach (s : State) (i : Nat) :
    (s.deferredActions i).oneEntryEach = s.oneEntryEach := by
  unfold State.deferredActions; split <;> simp

/-! ## Turns and their results -/

@[simp] theorem State.returnEntry_oneEntryEach (s : State) (i : Nat) :
    (s.returnEntry i).oneEntryEach = s.oneEntryEach := by
  unfold State.returnEntry; split <;> simp

@[simp] theorem State.returnEntries_oneEntryEach (s : State) (slot : Nat) :
    (s.returnEntries slot).oneEntryEach = s.oneEntryEach := foldl_oneEntryEach State.returnEntry_oneEntryEach _ s

@[simp] theorem State.reportReply_oneEntryEach (s : State) (i : Nat) (r : Reply) :
    (s.reportReply i r).oneEntryEach = s.oneEntryEach := by
  unfold State.reportReply; split <;> simp

@[simp] theorem State.reportSilence_oneEntryEach (s : State) (i : Nat) :
    (s.reportSilence i).oneEntryEach = s.oneEntryEach := by
  unfold State.reportSilence; split <;> simp

/-! ## The end of a walk, the arbiter and the card boundary -/

@[simp] theorem State.endTicketWalk_oneEntryEach (s : State) (n : Nat) (o : TicketOutcome) (r : Reason)
    (stop : Option Nat) : (s.endTicketWalk n o r stop).oneEntryEach = s.oneEntryEach := by
  unfold State.endTicketWalk; split <;> simp [State.putTallies_eq]

@[simp] theorem State.takeWalk_oneEntryEach (s : State) (n : Nat) (w : Walk) :
    (s.takeWalk n w).oneEntryEach = s.oneEntryEach := State.oneEntryEach_of_roster (s.takeWalk_roster n w)

theorem State.arbitrateUpTo_oneEntryEach (k : Nat) (s : State) :
    (State.arbitrateUpTo k s).oneEntryEach = s.oneEntryEach := by
  induction k generalizing s with
  | zero => rfl
  | succ k ih =>
    unfold State.arbitrateUpTo; split
    · rfl
    · split <;> simp [ih, State.startWalk, State.resumeWalk]

@[simp] theorem State.arbitrate_oneEntryEach (s : State) : s.arbitrate.oneEntryEach = s.oneEntryEach :=
  s.arbitrateUpTo_oneEntryEach 33

@[simp] theorem State.endWalk_oneEntryEach (s : State) (o : TicketOutcome) (r : Reason) (stop : Option Nat) :
    (s.endWalk o r stop).oneEntryEach = s.oneEntryEach := by
  unfold State.endWalk; split <;> simp

@[simp] theorem State.endWalkAtCard_oneEntryEach (s : State) (o : TicketOutcome) (r : Reason) (stop : Option Nat) :
    (s.endWalkAtCard o r stop).oneEntryEach = s.oneEntryEach := by
  unfold State.endWalkAtCard; split
  · rfl
  · split <;> simp

@[simp] theorem State.park_oneEntryEach (s : State) : s.park.oneEntryEach = s.oneEntryEach := by
  unfold State.park; split
  · rfl
  · split <;> simp [State.putTallies_eq]

@[simp] theorem State.cardBoundary_oneEntryEach (s : State) : s.cardBoundary.oneEntryEach = s.oneEntryEach := by
  unfold State.cardBoundary; split
  · rfl
  · split <;> simp

@[simp] theorem State.goTo_oneEntryEach (s : State) (p : Option Position) : (s.goTo p).oneEntryEach = s.oneEntryEach := by
  cases p <;> simp [State.goTo]

@[simp] theorem State.completeCard_oneEntryEach (s : State) (c : Card) :
    (s.completeCard c).oneEntryEach = s.oneEntryEach := by
  unfold State.completeCard; split <;> simp

@[simp] theorem State.refuseCard_oneEntryEach (s : State) (c : Card) (n : Nat) (k : ExceptionKind) (i : Nat)
    (ident : BitVec 24) : (s.refuseCard c n k i ident).oneEntryEach = s.oneEntryEach := by simp [State.refuseCard]

/-! ## The walker -/

@[simp] theorem State.roomStall_oneEntryEach (s : State) (app : Application) :
    (s.roomStall app).oneEntryEach = s.oneEntryEach := by
  unfold State.roomStall; split
  · rfl
  · split <;> simp

@[simp] theorem State.turnStall_oneEntryEach (s : State) (app : Application) :
    (s.turnStall app).oneEntryEach = s.oneEntryEach := by
  unfold State.turnStall; split
  · rfl
  · split <;> simp

@[simp] theorem State.openApplication_oneEntryEach (s : State) (c : Card) (n i : Nat) :
    (s.openApplication c n i).oneEntryEach = s.oneEntryEach := by
  cases h : s.askMap i <;> simp [State.openApplication, h]

@[simp] theorem State.includeCard_oneEntryEach (s : State) (w : Walk) (t : Ticket) (c : Card) (n : Nat) :
    (s.includeCard w t c n).oneEntryEach = s.oneEntryEach := by
  unfold State.includeCard; split
  · simp
  · split <;> simp

theorem State.unlessEnding_oneEntryEach {s next : State} {b : Bool} (hs : s.oneEntryEach = b)
    (hnext : next.oneEntryEach = b) : (s.unlessEnding next).oneEntryEach = b := by
  unfold State.unlessEnding; split
  · exact hnext
  · split <;> simp [hs, hnext]

@[simp] theorem State.actByKind_oneEntryEach (s : State) (w : Walk) (t : Ticket) (c : Card) (n : Nat) (k : CardKind) :
    (s.actByKind w t c n k).oneEntryEach = s.oneEntryEach := by
  cases k with
  | price | adjustPercent | adjustAmount | badge => exact State.unlessEnding_oneEntryEach rfl (by simp)
  | _ => simp [State.actByKind, State.markCard]

@[simp] theorem State.actOnCard_oneEntryEach (s : State) (c : Card) (n : Nat) :
    (s.actOnCard c n).oneEntryEach = s.oneEntryEach := by
  unfold State.actOnCard; split
  · split <;> simp
  · rfl

theorem State.fetchCard_oneEntryEach (s : State) (l : Link) (counted : Bool) :
    ((s.fetchCard l counted).stateOr s).oneEntryEach = s.oneEntryEach := by
  unfold State.fetchCard; split
  · rfl
  · split
    · rfl
    · simp [CardFetch.stateOr]
    · simp only [CardFetch.stateOr_ite]
      simp [CardFetch.stateOr]

@[simp] theorem State.stepCard_oneEntryEach (s : State) : s.stepCard.oneEntryEach = s.oneEntryEach := by
  unfold State.stepCard; split
  · rfl
  next w _ =>
    have hfetch := s.fetchCard_oneEntryEach w.link (w.next == .nextCard)
    split
    · rfl
    · split <;> simp_all [CardFetch.stateOr]

@[simp] theorem State.stepIteration_oneEntryEach (s : State) : s.stepIteration.oneEntryEach = s.oneEntryEach := by
  unfold State.stepIteration; split
  · rfl
  next w _ =>
    split
    · rfl
    next f _ =>
      have hfetch := s.fetchCard_oneEntryEach (w.iterationLink f) true
      split
      · split <;> simp_all [CardFetch.stateOr]
      · rfl

@[simp] theorem State.answerSpanTest_oneEntryEach (s : State) (a : Answer) :
    (s.answerSpanTest a).oneEntryEach = s.oneEntryEach := by
  unfold State.answerSpanTest State.spanTested State.spanTestFaulted
  repeat' split
  all_goals simp

@[simp] theorem State.retryRoom_oneEntryEach (s : State) : s.retryRoom.oneEntryEach = s.oneEntryEach := by
  unfold State.retryRoom; split
  · rfl
  · split <;> simp

@[simp] theorem State.retryTurn_oneEntryEach (s : State) : s.retryTurn.oneEntryEach = s.oneEntryEach := by
  unfold State.retryTurn; split
  · rfl
  · split <;> simp

@[simp] theorem State.requestWalkEnd_oneEntryEach (s : State) (o : TicketOutcome) :
    (s.requestWalkEnd o).oneEntryEach = s.oneEntryEach := by
  unfold State.requestWalkEnd; split <;> simp

@[simp] theorem State.requestParking_oneEntryEach (s : State) : s.requestParking.oneEntryEach = s.oneEntryEach := by
  unfold State.requestParking; split
  · rfl
  next w _ => cases w.phase <;> simp

@[simp] theorem State.haltWalk_oneEntryEach (s : State) : s.haltWalk.oneEntryEach = s.oneEntryEach := by
  unfold State.haltWalk; split
  · rfl
  next w _ => cases w.phase <;> simp

/-! ## The Ticket Unit -/

@[simp] theorem State.askSweep_oneEntryEach (s : State) : s.askSweep.oneEntryEach = s.oneEntryEach := by
  simp [State.askSweep]

@[simp] theorem State.takeTicket_oneEntryEach (s : State) (n : Nat) :
    (s.takeTicket n).oneEntryEach = s.oneEntryEach := by
  unfold State.takeTicket; split
  · simp
  · dsimp only
    split <;> simp [State.afterTaking, State.zeroTallies_eq]

@[simp] theorem State.sweepSlot_oneEntryEach (s : State) (n : Nat) : (s.sweepSlot n).oneEntryEach = s.oneEntryEach := by
  unfold State.sweepSlot; split
  · simp
  · split <;> simp [State.sweepUnheld, State.sweepHeld]

@[simp] theorem State.sweepBoard_oneEntryEach (s : State) : s.sweepBoard.oneEntryEach = s.oneEntryEach := by
  simp [State.sweepBoard, foldl_oneEntryEach State.sweepSlot_oneEntryEach]

@[simp] theorem State.takeExpiry_oneEntryEach (s : State) (n : Nat) :
    (s.takeExpiry n).oneEntryEach = s.oneEntryEach := by
  unfold State.takeExpiry; split
  · rfl
  next t _ => cases h : t.state <;> simp [State.expireTicket, h]

@[simp] theorem State.cancelTicket_oneEntryEach (s : State) (n : Nat) :
    (s.cancelTicket n).oneEntryEach = s.oneEntryEach := by
  unfold State.cancelTicket; split
  · simp [State.cancelUnheld]
  next t _ => cases h : t.state <;> simp [State.cancelHeld, h]

/-! ## The air -/

@[simp] theorem State.startCycle_oneEntryEach (s : State) : s.startCycle.oneEntryEach = s.oneEntryEach := by
  have hentries := State.mapEntries_oneEntryEach (s := s.onTime Timebase.atCycleStart)
    (f := Entry.atCycleStart (rushRenewal s.time.cycleRush s.time.liveRush) s.time.storeTime) fun _ => rfl
  simpa [State.startCycle] using hentries

theorem State.nextPeriod_oneEntryEach {s : State} {start : State → State}
    (h : (start s).oneEntryEach = s.oneEntryEach) : (s.nextPeriod start).oneEntryEach = s.oneEntryEach := by
  simp [State.nextPeriod, h]

@[simp] theorem State.askTurnReads_oneEntryEach (s : State) (turns : List AirTurn) :
    (s.askTurnReads turns).oneEntryEach = s.oneEntryEach := by
  unfold State.askTurnReads
  exact foldl_oneEntryEach (fun s _ => s.askAir_oneEntryEach _) _ s

@[simp] theorem State.receiveTurns_oneEntryEach (s : State) (slot : Nat) (turns : List AirTurn) :
    (s.receiveTurns slot turns).oneEntryEach = s.oneEntryEach := by
  unfold State.receiveTurns; split
  · rfl
  · split <;> simp

@[simp] theorem State.startSlot_oneEntryEach (s : State) (k : Fin 64) :
    (s.startSlot k).oneEntryEach = s.oneEntryEach := by simp [State.startSlot]

@[simp] theorem State.endSlot_oneEntryEach (s : State) (k : Fin 64) : (s.endSlot k).oneEntryEach = s.oneEntryEach := by
  rw [State.endSlot, State.nextPeriod_oneEntryEach rfl]
  simp

@[simp] theorem State.senseBeacon_oneEntryEach (s : State) (busy : Bool) :
    (s.senseBeacon busy).oneEntryEach = s.oneEntryEach := by
  unfold State.senseBeacon; split <;> simp

@[simp] theorem State.senseSlot_oneEntryEach (s : State) (busy : Bool) :
    (s.senseSlot busy).oneEntryEach = s.oneEntryEach := by
  unfold State.senseSlot; split <;> simp [State.loseSlot, State.sendRollCall]

@[simp] theorem State.startTurn_oneEntryEach (s : State) (n : Nat) : (s.startTurn n).oneEntryEach = s.oneEntryEach := by
  unfold State.startTurn
  repeat' split
  all_goals simp [State.sendTurn]

@[simp] theorem State.openWindow_oneEntryEach (s : State) : s.openWindow.oneEntryEach = s.oneEntryEach := by
  unfold State.openWindow; split <;> simp

@[simp] theorem State.receiveFrame_oneEntryEach (s : State) (frame : List Byte) :
    (s.receiveFrame frame).oneEntryEach = s.oneEntryEach := by
  unfold State.receiveFrame; split
  · rfl
  · dsimp only
    split <;> simp

@[simp] theorem State.closeWindow_oneEntryEach (s : State) : s.closeWindow.oneEntryEach = s.oneEntryEach := by
  unfold State.closeWindow; split <;> simp

/-! ## Host accesses, the cache and the Loader -/

@[simp] theorem State.answerRead_oneEntryEach (s : State) (a : BitVec 24) :
    (s.answerRead a).oneEntryEach = s.oneEntryEach := by
  unfold State.answerRead State.snoopWordRead State.ramRead
  repeat' split
  all_goals simp

@[simp] theorem State.answerWrite_oneEntryEach (s : State) (a : BitVec 24) (w : Word) :
    (s.answerWrite a w).oneEntryEach = s.oneEntryEach := by
  unfold State.answerWrite State.snoopWordWrite
  repeat' split
  all_goals simp

@[simp] theorem State.answerAccess_oneEntryEach (s : State) (a : HostAccess) :
    (s.answerAccess a).oneEntryEach = s.oneEntryEach := by
  cases a <;> simp [State.answerAccess]

@[simp] theorem State.access_oneEntryEach (s : State) (a : HostAccess) :
    (s.access a).oneEntryEach = s.oneEntryEach := by simp [State.access]

@[simp] theorem State.nudged_oneEntryEach (s : State) : s.nudged.oneEntryEach = s.oneEntryEach := by
  simp [State.nudged]

@[simp] theorem State.putRecordWords_oneEntryEach (s : State) (i : Nat) (l : List (Nat × Word)) :
    (s.putRecordWords i l).oneEntryEach = s.oneEntryEach := by
  unfold State.putRecordWords
  refine foldl_oneEntryEach (fun s p => ?_) l s
  simp

@[simp] theorem State.serveOnLine_oneEntryEach (s : State) (key : Nat) (l : Line) (op : CacheOp) :
    (s.serveOnLine key l op).oneEntryEach = s.oneEntryEach := by simp [State.serveOnLine]

@[simp] theorem State.finishPush_oneEntryEach (s : State) : s.finishPush.oneEntryEach = s.oneEntryEach := by
  unfold State.finishPush; split <;> simp

@[simp] theorem State.finishDrop_oneEntryEach (s : State) : s.finishDrop.oneEntryEach = s.oneEntryEach := by
  unfold State.finishDrop; split <;> simp

@[simp] theorem State.finishLoaderPush_oneEntryEach (s : State) : s.finishLoaderPush.oneEntryEach = s.oneEntryEach := by
  unfold State.finishLoaderPush; split <;> simp

@[simp] theorem State.finishCacheCommands_oneEntryEach (s : State) :
    s.finishCacheCommands.oneEntryEach = s.oneEntryEach := by simp [State.finishCacheCommands]

@[simp] theorem State.endFill_oneEntryEach (s : State) : s.endFill.oneEntryEach = s.oneEntryEach := by
  simp [State.endFill, State.drainHeld, foldl_oneEntryEach State.answerAccess_oneEntryEach]

@[simp] theorem State.pushBuffered_oneEntryEach (s : State) : s.pushBuffered.oneEntryEach = s.oneEntryEach := by
  unfold State.pushBuffered; split <;> simp [State.pushRecord]

@[simp] theorem State.loadSweepSlot_oneEntryEach (base : Nat) (s : State) (n : Nat) :
    (State.loadSweepSlot base s n).oneEntryEach = s.oneEntryEach := by
  have hinterrupt : (s.interruptTicket (base + 128 * n)).oneEntryEach = s.oneEntryEach :=
    State.oneEntryEach_of_roster (by rw [State.interruptTicket_eq])
  simp [State.loadSweepSlot, hinterrupt]

@[simp] theorem State.checkLoad_oneEntryEach (s : State) : s.checkLoad.oneEntryEach = s.oneEntryEach := by
  have hfail : ∀ code, (s.failLoad code).oneEntryEach = s.oneEntryEach := fun _ => rfl
  have hsweep : ∀ base, (s.loadSweep base).oneEntryEach = s.oneEntryEach := fun base =>
    foldl_oneEntryEach (State.loadSweepSlot_oneEntryEach base) _ s
  unfold State.checkLoad State.loadSettings
  split
  · simp [hfail]
  · split <;> simp [hfail, hsweep, State.completeLoad, State.endReload]

end Sys2Proof.Machine
end

section
/-! Every step keeps the map's promise: the acts that add, remove or hold an entry (R107 to R111, R122), the answers that
bring them about, and the steps. -/

namespace Sys2Proof.Machine

/-! ## Entries that leave, join and are held -/

section Keeps
variable {s : State}

theorem State.removeEntry_keepsOne (h : s.oneEntryEach = true) (i : Nat) : (s.removeEntry i).oneEntryEach = true := by
  rw [State.oneEntryEach_iff] at h ⊢
  obtain ⟨hnodup, hnew⟩ := h
  have hsub : ((s.roster.entries.filter fun e => e.index != i).map (·.index)).Sublist (s.roster.entries.map (·.index)) :=
    List.filter_sublist.map _
  exact ⟨hnodup.sublist hsub, fun n hn hmem => hnew n hn (hsub.subset hmem)⟩

/-- An entry joins whose index neither an entry has nor the decision held apart names. -/
theorem State.joinEntry_keepsOne (h : s.oneEntryEach = true) {e : Entry}
    (hfree : e.index ∉ s.roster.entries.map (·.index)) (hheld : ∀ n, s.roster.newEntry = some n → n.index ≠ e.index) :
    (s.joinEntry e).oneEntryEach = true := by
  rw [State.oneEntryEach_iff] at h ⊢
  obtain ⟨hnodup, hnew⟩ := h
  simp only [State.joinEntry, State.onRoster, List.map_append, List.map_cons, List.map_nil]
  refine ⟨List.nodup_append.mpr ⟨hnodup, List.nodup_singleton _, ?_⟩, fun n hn => ?_⟩
  · rintro a ha b hb rfl
    exact hfree (List.mem_singleton.mp hb ▸ ha)
  · simp only [List.mem_append, List.mem_singleton, not_or]
    exact ⟨hnew n hn, hheld n hn⟩

theorem State.dropNewEntry_keepsOne (h : s.oneEntryEach = true) :
    (s.onRoster fun r => { r with newEntry := none }).oneEntryEach = true := by
  rw [State.oneEntryEach_iff] at h ⊢
  exact ⟨h.1, fun n hn => absurd hn (by simp [State.onRoster])⟩

theorem State.entry_eq_none_iff (s : State) (i : Nat) : s.entry i = none ↔ i ∉ s.roster.entries.map (·.index) := by
  simp [State.entry]

theorem State.openNewEntry_keepsOne (h : s.oneEntryEach = true) {n : NewEntry} (hfree : s.entry n.index = none) :
    (s.openNewEntry n).oneEntryEach = true := by
  rw [State.oneEntryEach_iff] at h ⊢
  refine ⟨h.1, fun m hm => ?_⟩
  obtain rfl : n = m := Option.some.inj hm
  exact (s.entry_eq_none_iff n.index).mp hfree

/-- An entry that moves to the tail of the join order keeps its index, which no decision held apart can name. -/
theorem State.rejoinEntry_keepsOne (h : s.oneEntryEach = true) (i : Nat) : (s.rejoinEntry i).oneEntryEach = true := by
  unfold State.rejoinEntry
  split
  · exact h
  next e he =>
    have hmem : e ∈ s.roster.entries := List.mem_of_find?_eq_some he
    have hindex : e.index = i := by simpa using List.find?_some he
    refine State.joinEntry_keepsOne (State.removeEntry_keepsOne h i) ?_ fun n hn heq => ?_
    · simp [State.removeEntry, State.onRoster, hindex]
    · exact ((s.oneEntryEach_iff).mp h).2 n hn (List.mem_map.mpr ⟨e, hmem, heq.symm⟩)

/-! ## Closings and decisions (R109 to R112, R122) -/

theorem State.closeEntry_keepsOne (h : s.oneEntryEach = true) (e : Entry) (c : Closing) :
    (s.closeEntry e c).oneEntryEach = true := by
  have hreport := (s.reportDelivery_oneEntryEach e.owner c.tally
    ((c.exception e.version).map fun p => e.exceptionEntry p.1 p.2)).trans h
  simpa [State.closeEntry] using State.removeEntry_keepsOne hreport e.index

theorem State.completeNew_keepsOne (h : s.oneEntryEach = true) {n : NewEntry} (hnew : s.roster.newEntry = some n) :
    (s.completeNew n).oneEntryEach = true := by
  rw [State.completeNew, State.reportDelivery_oneEntryEach]
  exact State.joinEntry_keepsOne (State.dropNewEntry_keepsOne h) (((s.oneEntryEach_iff).mp h).2 n hnew)
    fun m hm => absurd hm (by simp [State.onRoster])

theorem State.completeSupersede_keepsOne (h : s.oneEntryEach = true) (e : Entry) (d : Decision) :
    (s.completeSupersede e d).oneEntryEach = true := by
  have hchange : (s.changeEntry e.index fun e => e.superseded d).oneEntryEach = true := by
    simp [Entry.superseded, Entry.merged, h]
  simp [State.completeSupersede, hchange, State.rejoinEntry_keepsOne hchange]

theorem State.completeDecision_keepsOne (h : s.oneEntryEach = true) (i : Nat) :
    (s.completeDecision i).oneEntryEach = true := by
  unfold State.completeDecision
  split
  next n hn => exact State.completeNew_keepsOne h hn
  · split
    · exact h
    · split
      · exact h
      · simp [State.completeMerge, State.completeSupersede_keepsOne, Entry.merged, h]

theorem State.dropDecision_keepsOne (h : s.oneEntryEach = true) (i : Nat) : (s.dropDecision i).oneEntryEach = true := by
  unfold State.dropDecision
  split
  · exact State.dropNewEntry_keepsOne h
  · simp [h]

/-! ## The write-back of a turn (R121, R122) -/

theorem State.endTurn_keepsOne (h : s.oneEntryEach = true) (i : Nat) : (s.endTurn i).oneEntryEach = true := by
  unfold State.endTurn
  split
  · exact h
  · split
    · exact State.closeEntry_keepsOne h _ _
    · simp [h]

theorem State.writeBackDelivery_keepsOne (h : s.oneEntryEach = true) (i : Nat) :
    (s.writeBackDelivery i).oneEntryEach = true := by
  unfold State.writeBackDelivery
  split
  · exact h
  · split
    · simp [h]
    · exact State.endTurn_keepsOne h i

theorem State.statusWritten_keepsOne (h : s.oneEntryEach = true) (i : Nat) : (s.statusWritten i).oneEntryEach = true := by
  unfold State.statusWritten
  split
  · exact h
  · simp [h, State.writeBackDelivery_keepsOne]

theorem State.confirmRead_keepsOne (h : s.oneEntryEach = true) (i : Nat) (ws : List Word) (known : Bool) :
    (s.confirmRead i ws known).oneEntryEach = true := by
  unfold State.confirmRead
  split
  · exact h
  · simp [h, State.endTurn_keepsOne]

theorem State.deliveryWritten_keepsOne (h : s.oneEntryEach = true) (i : Nat) :
    (s.deliveryWritten i).oneEntryEach = true := by
  unfold State.deliveryWritten
  split
  · exact h
  · split
    · exact State.endTurn_keepsOne h i
    · split
      · exact State.closeEntry_keepsOne h _ _
      · exact h

/-! ## The answers of the cache port -/

/-- A change accepted without an entry is one of an index that has none (R108). -/
theorem State.enterChange_keepsOne (h : s.oneEntryEach = true) (app : Application) (t : Ticket) (ws : List Word)
    (im : Image) (clamped : Bool) (raw : Int) : (s.enterChange app t ws im clamped raw).oneEntryEach = true := by
  unfold State.enterChange
  split
  case h_4 version hanswer =>
    cases hentry : app.fromEntry with
    | true => simp [State.stageImage, State.openDecision, hentry, h]
    | false =>
      have hfree : s.entry app.index = none := by
        cases he : s.entry app.index with
        | none => rfl
        | some e => simp [State.enterAnswer, he, hentry] at hanswer; split at hanswer <;> cases hanswer
      simpa [State.stageImage, hentry] using State.openNewEntry_keepsOne h hfree
  all_goals simp [h]

theorem State.answerRecord_keepsOne (h : s.oneEntryEach = true) (a : Answer) (ident : BitVec 24) :
    (s.answerRecord a ident).oneEntryEach = true := by
  unfold State.answerRecord
  split
  · refine State.unlessEnding_oneEntryEach h ?_
    cases a with
    | served ws quarters =>
      simp only [State.recordArrived]
      split
      · split
        · simp [h]
        · split <;> simp [h, State.enterChange_keepsOne]
      · exact h
    | fault => simp [State.applicationFaulted, h]
  · exact h

theorem State.answerStage_keepsOne (h : s.oneEntryEach = true) (a : Answer) : (s.answerStage a).oneEntryEach = true := by
  unfold State.answerStage
  split
  · cases a with
    | served => simp [State.imageStaged, State.completeDecision_keepsOne h]
    | fault => simp [State.imageFaulted, State.applicationFaulted, State.dropDecision_keepsOne h]
  · exact h

theorem State.deliver_keepsOne (h : s.oneEntryEach = true) (r : Request) (a : Answer) (ident : BitVec 24) :
    (s.deliver r a ident).oneEntryEach = true := by
  unfold State.deliver
  split <;> cases a <;>
    simp [h, State.statusWritten_keepsOne, State.confirmRead_keepsOne, State.endTurn_keepsOne,
      State.writeBackDelivery_keepsOne, State.deliveryWritten_keepsOne, State.answerRecord_keepsOne,
      State.answerStage_keepsOne]

theorem State.grantPort_keepsOne (h : s.oneEntryEach = true) : s.grantPort.oneEntryEach = true := by
  unfold State.grantPort
  split
  · exact h
  · split
    next who r _ =>
      unfold State.grantRequest
      split
      · simp [h]
      · split
        · exact State.deliver_keepsOne (by simp [h]) ..
        · split
          · exact State.deliver_keepsOne (by simp [h]) ..
          · simp [State.grantMiss, h]
    · split <;> simp [State.sweepLine, State.pushRecord, h]

theorem State.installFill_keepsOne (h : s.oneEntryEach = true) : s.installFill.oneEntryEach = true := by
  unfold State.installFill
  split
  · exact h
  next f _ =>
    dsimp only
    split
    · cases hr : (s.readOn f).request with
      | none => simp [State.completeFill, hr, h]
      | some r => simpa only [State.completeFill, hr] using State.deliver_keepsOne (by simp [h]) ..
    · exact h

theorem State.abandonFill_keepsOne (h : s.oneEntryEach = true) : s.abandonFill.oneEntryEach = true := by
  unfold State.abandonFill
  split
  · exact h
  next f _ =>
    dsimp only
    split
    · exact h
    · unfold State.abandonComplete
      dsimp only
      split <;> split
      all_goals simp [h, State.deliver_keepsOne]

/-! ## The commands of CONTROL and every step -/

theorem State.take_keepsOne (h : s.oneEntryEach = true) (c : Command) (argument : Nat) :
    (s.take c argument).oneEntryEach = true := by
  cases c with
  | reload =>
    simp only [State.take, State.startLoad, State.finishLoaderPush_oneEntryEach, State.blockUpdates_oneEntryEach]
    rfl
  | run => simp [State.take, State.takeRun, h]
  | halt => simp [State.take, State.takeHalt, h]
  | pushAll => simp [State.take, State.takePushAll, h]
  | dropAll => simp [State.take, State.takeDropAll, h]
  | cancel => simp [State.take, h]
  | radioRestart => simp [State.take, State.restartRadio, h]

theorem State.command_keepsOne (h : s.oneEntryEach = true) (code : BitVec 4) (argument : Nat) :
    (s.command code argument).oneEntryEach = true := by
  have htake : ∀ c, ((s.nameCommand c.code).take c argument).oneEntryEach = true := fun c =>
    State.take_keepsOne (by simp [h]) c argument
  unfold State.command
  split
  · simp [h]
  · split <;> simp [State.judgeCommand, h, htake]

theorem State.hostStore_keepsOne (h : s.oneEntryEach = true) (a : BitVec 24) (v : Word) :
    (s.hostStore a v).oneEntryEach = true := by
  unfold State.hostStore State.writeRegister
  repeat' split
  all_goals simp [h, State.command_keepsOne]

theorem exec_keepsOne (h : s.oneEntryEach = true) {i : Instr} {t : State} (hexec : exec i s = .next t) :
    t.oneEntryEach = true := by
  cases i <;> obtain rfl := Host.Outcome.next.inj hexec
  case powerOnReset => rfl
  case hostWrite a v => exact State.hostStore_keepsOne h a v
  case run | halt | reload | pushAll | dropAll | radioRestart | cancel | undefinedCommand =>
    exact State.command_keepsOne h _ _
  case portGrant => exact State.grantPort_keepsOne h
  case fillInstall => exact State.installFill_keepsOne h
  case fillAbandon => exact State.abandonFill_keepsOne h
  case cycleStart => simp [State.nextPeriod_oneEntryEach s.startCycle_oneEntryEach, h]
  case slotStart =>
    split
    · exact h
    · rw [State.nextPeriod_oneEntryEach (State.startSlot_oneEntryEach _ _), h]
  case slotEnd => split <;> simp [h]
  all_goals simp [h, State.writeRegister, State.tickSecond, State.endSweep]

end Keeps

end Sys2Proof.Machine

namespace Sys2Proof.DeliveryRoster
open Sys2Proof.Machine

/-- Settles O57: a tick leaves the roster alone, and every command keeps the promise. -/
theorem stepsKeepOneEntryEach : Obligations.StepsKeepOneEntryEach := by
  intro s t hs hstep
  unfold step at hstep
  split at hstep
  · obtain rfl := Host.Outcome.next.inj hstep
    simpa using hs
  · exact exec_keepsOne (by simpa using hs) hstep

end Sys2Proof.DeliveryRoster
end

section
/-! The result of a turn: what a closed window and a received frame make of the entry, and the miss that silence counts
(R12, R117 to R120, R138, R139). -/

namespace Sys2Proof.Machine

/-! ## The entry of an index (R107) -/

theorem State.mem_of_entry {s : State} {i : Nat} {e : Entry} (he : s.entry i = some e) :
    e ∈ s.roster.entries ∧ e.index = i :=
  ⟨List.mem_of_find?_eq_some he, by simpa using List.find?_some he⟩

/-- With one entry an index, a change of the entry of an index puts the changed entry in its place. -/
theorem State.changeEntry_of_entry {s : State} (h : s.oneEntryEach = true) {i : Nat} {e : Entry} (he : s.entry i = some e)
    (f : Entry → Entry) :
    s.changeEntry i f =
      { s with roster := { s.roster with entries := s.roster.entries.map fun y => if y.index = i then f e else y } } := by
  obtain ⟨hmem, rfl⟩ := State.mem_of_entry he
  have hmap : s.roster.entries.map (fun y => if y.index = e.index then f y else y) =
      s.roster.entries.map fun y => if y.index = e.index then f e else y :=
    List.map_congr_left fun y hy => by
      by_cases hindex : y.index = e.index
      · rw [Entry.eq_of_index (State.indexes_nodup h) hmem hy hindex]
      · simp [hindex]
  rw [← hmap]
  rfl

/-! ## The result of a turn (R120, R121, R138, R139) -/

section Window
variable {s : State} {x : AirTurn} {e : Entry}

theorem State.awaitsReply.openTurn (h : s.awaitsReply x e) : s.air.openTurn true = some x := by
  obtain ⟨hstage, hturn, hopen, -, -⟩ := h
  simp [AirLink.openTurn, hstage, hturn, hopen]

/-- The attempts, the rushing flag and the write-back that a result gives its entry, and the request it asks for. -/
theorem State.closeTurn_appliesResult (h : s.awaitsReply x e) (hone : s.oneEntryEach = true) (f : Entry → Entry)
    (q : Request) :
    s.appliesResult (((s.closeTurn x.number).changeEntry x.index f).askAir q) x (f e) q := by
  obtain ⟨-, -, -, he, -⟩ := h
  have hclosed : (s.closeTurn x.number).oneEntryEach = true := by simpa using hone
  have hentry : (s.closeTurn x.number).entry x.index = some e := he
  rw [State.changeEntry_of_entry hclosed hentry]
  rfl

theorem State.closeWindow_eq (h : s.awaitsReply x e) :
    s.closeWindow = (s.closeTurn x.number).reportSilence x.index := by
  simp [State.closeWindow, h.openTurn]

theorem State.receiveFrame_of_invalid (h : s.awaitsReply x e) {frame : List Byte}
    (hframe : readReply s.cellCode x.ident frame = none) :
    s.receiveFrame frame = (s.closeTurn x.number).reportSilence x.index := by
  have hcell : readReply (s.closeTurn x.number).cellCode x.ident frame = none := hframe
  simp [State.receiveFrame, h.openTurn, hcell]

theorem State.receiveFrame_of_valid (h : s.awaitsReply x e) {frame : List Byte} {r : Reply}
    (hframe : readReply s.cellCode x.ident frame = some r) :
    s.receiveFrame frame = (s.closeTurn x.number).reportReply x.index r := by
  have hcell : readReply (s.closeTurn x.number).cellCode x.ident frame = some r := hframe
  simp [State.receiveFrame, h.openTurn, hcell]

theorem State.reportSilence_appliesResult (h : s.awaitsReply x e) (hone : s.oneEntryEach = true) :
    s.appliesResult ((s.closeTurn x.number).reportSilence x.index) x
      { e with
        attempts := (e.judgeSilence s.attemptLimit).attempts
        turn := some (.writingBack (e.judgeSilence s.attemptLimit).wb) }
      { index := x.index, op := .countMiss, purpose := .replyStatus } := by
  have happlies := State.closeTurn_appliesResult h hone
    (fun e' => { e' with
        attempts := (e.judgeSilence s.attemptLimit).attempts
        turn := some (.writingBack (e.judgeSilence s.attemptLimit).wb) })
    { index := x.index, op := .countMiss, purpose := .replyStatus }
  obtain ⟨-, -, -, he, hturn⟩ := h
  have hentry : (s.closeTurn x.number).entry x.index = some e := he
  simp only [State.reportSilence, hentry, hturn, if_true]
  exact happlies

theorem State.reportReply_appliesResult (h : s.awaitsReply x e) (hone : s.oneEntryEach = true) (r : Reply) :
    let v := e.judge r s.attemptLimit (s.activationPassed e.activation)
    s.appliesResult ((s.closeTurn x.number).reportReply x.index r) x
      { e with
        attempts := v.attempts
        rushing := r.rushing && s.time.liveRush.isOpen
        turn := some (.writingBack v.wb) }
      (statusRequest x.index r s.time.liveRush s.time.cycleNumber s.time.storeTime) := by
  intro v
  have happlies := State.closeTurn_appliesResult h hone
    (fun e' => { e' with
        attempts := v.attempts
        rushing := r.rushing && s.time.liveRush.isOpen
        turn := some (.writingBack v.wb) })
    (statusRequest x.index r s.time.liveRush s.time.cycleNumber s.time.storeTime)
  obtain ⟨-, -, -, he, hturn⟩ := h
  have hentry : (s.closeTurn x.number).entry x.index = some e := he
  simp only [State.reportReply, hentry, hturn, if_true]
  exact happlies

end Window

/-! ## Attempts and misses (R12, R120) -/

theorem Entry.countsAttempt_attempts (e : Entry) (limit : Nat) (st : EntryState) (d : Option DeliveryState) :
    (e.countsAttempt limit st d).attempts = e.attempts + 1 := by
  unfold Entry.countsAttempt
  dsimp only
  split <;> rfl

theorem Entry.countsAttempt_wb (e : Entry) (limit : Nat) (st : EntryState) (d : Option DeliveryState) :
    (e.countsAttempt limit st d).wb =
      if e.attempts + 1 = limit then
        { confirm := false, delivery := some .noReply, after := .closes (.noReply (e.attempts + 1)) }
      else { confirm := false, delivery := d, after := .stays st } := by
  unfold Entry.countsAttempt
  dsimp only
  split <;> rfl

/-- The consecutive misses of a word of Q3, one more, up to 255 (R12). -/
theorem missWord_misses (w : Word) :
    (missWord w).extractLsb' 16 8 = if w.extractLsb' 16 8 = 255#8 then 255#8 else w.extractLsb' 16 8 + 1#8 := by
  unfold missWord
  rw [BitVec.extractLsb'_append_eq_of_le, BitVec.extractLsb'_append_eq_of_le, BitVec.extractLsb'_append_eq_of_le,
    BitVec.extractLsb'_append_eq_of_add_le] <;> simp

/-- The word with one more miss keeps battery, rushing flag and link quality, and its unused bits are 0 (R12, R186). -/
theorem missWord_others (w : Word) :
    (missWord w).extractLsb' 0 5 = w.extractLsb' 0 5 ∧ (missWord w).extractLsb' 8 8 = w.extractLsb' 8 8
      ∧ (missWord w).extractLsb' 5 3 = 0#3 ∧ (missWord w).extractLsb' 24 8 = 0#8 := by
  unfold missWord
  refine ⟨?battery, ?quality, ?low, ?high⟩
  case battery => rw [BitVec.extractLsb'_append_eq_of_add_le] <;> simp
  case quality =>
    rw [BitVec.extractLsb'_append_eq_of_le, BitVec.extractLsb'_append_eq_of_le,
      BitVec.extractLsb'_append_eq_of_add_le] <;> simp
  case low => rw [BitVec.extractLsb'_append_eq_of_le, BitVec.extractLsb'_append_eq_of_add_le] <;> simp
  case high =>
    rw [BitVec.extractLsb'_append_eq_of_le, BitVec.extractLsb'_append_eq_of_le, BitVec.extractLsb'_append_eq_of_le,
      BitVec.extractLsb'_append_eq_of_le] <;> simp

theorem missWord_toNat (w : Word) :
    ((missWord w).extractLsb' 16 8).toNat = min 255 ((w.extractLsb' 16 8).toNat + 1) := by
  rw [missWord_misses]
  split
  next h => simp [h]
  next h => bv_omega

end Sys2Proof.Machine

namespace Sys2Proof.DeliveryRoster
open Sys2Proof.Machine

/-- Settles O31: both events report silence, which applies the verdict that counts an attempt. -/
theorem silenceCountsAnAttempt : Obligations.SilenceCountsAnAttempt := by
  refine ⟨fun s x e h hone => ?_, fun ws => ?_⟩
  case refine_2 =>
    obtain ⟨hbattery, hquality, hlow, hhigh⟩ := missWord_others (ws.getD 12 0#32)
    exact ⟨missWord (ws.getD 12 0#32), rfl, hbattery, hquality, hlow, hhigh, missWord_toNat _⟩
  have hcloses : exec .replyWindowClose s = .next ((s.closeTurn x.number).reportSilence x.index) :=
    congrArg Host.Outcome.next (State.closeWindow_eq h)
  refine ⟨⟨_, hcloses, ?_⟩, fun frame hframe => ?_⟩
  · have happlies := State.reportSilence_appliesResult h hone
    rwa [Entry.judgeSilence, Entry.countsAttempt_attempts, Entry.countsAttempt_wb] at happlies
  · rw [hcloses]
    exact congrArg Host.Outcome.next (State.receiveFrame_of_invalid h hframe)

end Sys2Proof.DeliveryRoster
end

section
/-! The entry whose turn or decision is over: its deferred actions, one after another, and the walker that hears of it (R72,
R107, R112, R116, R125). -/

namespace Sys2Proof.Machine

/-! ## One entry, changed twice -/

section Taken
variable {s : State} {e : Entry} {p : Entry × Option Closing}

/-- The entry that an action makes stands at the place of the one it took. -/
theorem State.mem_entriesTake (he : e ∈ s.roster.entries) (p : Entry × Option Closing) :
    p.1 ∈ (s.entriesTake [e] fun _ => p).roster.entries :=
  List.mem_map.mpr ⟨e, he, by simp⟩

theorem State.entriesTake_nodup (h : (s.roster.entries.map (·.index)).Nodup) (hindex : p.1.index = e.index) :
    ((s.entriesTake [e] fun _ => p).roster.entries.map (·.index)).Nodup := by
  have hsame : (s.entriesTake [e] fun _ => p).roster.entries.map (·.index) = s.roster.entries.map (·.index) := by
    simp only [State.entriesTake, List.map_map]
    refine List.map_congr_left fun x _ => ?_
    by_cases hx : x = e <;> simp [hx, hindex]
  rwa [hsame]

/-- An action on the entry that an earlier one, without a removal, has left. -/
theorem State.entriesTake_then (h : (s.roster.entries.map (·.index)).Nodup) (he : e ∈ s.roster.entries)
    {x : Entry} (hindex : x.index = e.index) (f : Entry → Entry × Option Closing) :
    (s.entriesTake [e] fun _ => (x, none)).entriesTake [x] f = s.entriesTake [e] fun _ => f x := by
  have hmap : ∀ y ∈ s.roster.entries,
      (if (if y ∈ [e] then x else y) ∈ [x] then (f (if y ∈ [e] then x else y)).1 else if y ∈ [e] then x else y) =
        if y ∈ [e] then (f x).1 else y := by
    intro y hy
    by_cases hye : y = e
    · simp [hye]
    · have hyx : y ≠ x := fun heq => hye (Entry.eq_of_index h he hy (heq ▸ hindex))
      simp [hye, hyx]
  simp only [State.entriesTake, List.map_map, Function.comp_def, List.map_congr_left hmap, hindex, List.filterMap_cons,
    List.filterMap_nil, Option.map_none, List.append_nil]

end Taken

/-! ## Deferred actions (R112, R125) -/

/-- A removal that a cancellation begins has put its entry in removal. -/
theorem Entry.takesCancel_removing (e : Entry) (passed : Bool) (h : (e.takesCancel passed).2.isSome = true) :
    (e.takesCancel passed).1.removing.isSome = true := by
  unfold Entry.takesCancel at h ⊢
  repeat' split
  all_goals simp_all

/-- An entry with its deferred actions lifted. -/
def Entry.undeferred (e : Entry) : Entry := { e with deferCancel := false, deferExpiry := false }

/-- What the deferred cancellation of an entry, when it holds one, makes of it. -/
def Entry.takesDeferredCancel (e : Entry) (passed : Bool) : Entry × Option Closing :=
  if e.deferCancel then e.undeferred.takesCancel passed else (e.undeferred, none)

theorem Entry.takesDeferred_eq (e : Entry) (passed : Bool) :
    e.takesDeferred passed =
      if e.deferExpiry && (e.takesDeferredCancel passed).2.isNone then (e.takesDeferredCancel passed).1.takesExpiry
      else e.takesDeferredCancel passed := rfl

theorem Entry.takesDeferredCancel_spec (e : Entry) (passed : Bool) :
    (e.takesDeferredCancel passed).1.index = e.index
      ∧ ((e.takesDeferredCancel passed).2.isSome = true → (e.takesDeferredCancel passed).1.removing.isSome = true) := by
  unfold Entry.takesDeferredCancel
  split
  · exact ⟨Entry.takesCancel_index _ _, Entry.takesCancel_removing _ _⟩
  · exact ⟨rfl, fun h => absurd h (by simp)⟩

section Deferred
variable {s : State} {e : Entry}

theorem State.entriesTake_cancelEntry (h : (s.roster.entries.map (·.index)).Nodup) (he : e ∈ s.roster.entries)
    {x : Entry} (hindex : x.index = e.index) :
    (s.entriesTake [e] fun _ => (x, none)).cancelEntry e.index =
      s.entriesTake [e] fun _ => x.takesCancel (s.passed x) := by
  rw [← hindex, State.cancelEntry_eq (State.entriesTake_nodup h hindex) (State.mem_entriesTake he (x, none)),
    State.entriesTake_then h he hindex]
  rfl

/-- An expiry finds an entry that has just gone into removal out of reach. -/
theorem State.entriesTake_expireEntry (h : (s.roster.entries.map (·.index)).Nodup) (he : e ∈ s.roster.entries)
    {p : Entry × Option Closing} (hindex : p.1.index = e.index) (hremoving : p.2.isSome = true → p.1.removing.isSome = true) :
    (s.entriesTake [e] fun _ => p).expireEntry e.index =
      s.entriesTake [e] fun _ => if p.2.isNone then p.1.takesExpiry else p := by
  rw [← hindex, State.expireEntry_eq (State.entriesTake_nodup h hindex) (State.mem_entriesTake he p)]
  obtain ⟨x, c⟩ := p
  cases c with
  | none => exact State.entriesTake_then h he hindex _
  | some c => exact State.entriesTake_of_same (by simp [Entry.takesExpiry, hremoving])

/-- The deferred cancellation acts first, and the deferred expiry after it (R125). -/
theorem State.deferredActions_eq (h : (s.roster.entries.map (·.index)).Nodup) (he : e ∈ s.roster.entries) :
    s.deferredActions e.index = s.entriesTake [e] fun _ => e.takesDeferred (s.passed e) := by
  have hfree : s.changeEntry e.index (fun e => { e with deferCancel := false, deferExpiry := false }) =
      s.entriesTake [e] fun _ => (e.undeferred, none) :=
    State.entriesTake_of_changed h he (f := fun _ => (e.undeferred, none)) rfl
  have hcancelled : (if e.deferCancel then (s.entriesTake [e] fun _ => (e.undeferred, none)).cancelEntry e.index
      else s.entriesTake [e] fun _ => (e.undeferred, none)) =
      s.entriesTake [e] fun _ => e.takesDeferredCancel (s.passed e) := by
    rw [State.entriesTake_cancelEntry h he (x := e.undeferred) rfl]
    unfold Entry.takesDeferredCancel
    split <;> rfl
  obtain ⟨hindex, hremoving⟩ := e.takesDeferredCancel_spec (s.passed e)
  simp only [State.deferredActions, State.entry_of_mem h he, hfree, hcancelled, Entry.takesDeferred_eq]
  rw [State.entriesTake_expireEntry h he hindex hremoving]
  cases e.deferExpiry <;> simp

/-- A turn or a decision is over: the entry is left as given, the walker hears of it, and the deferred actions act (R72,
R107, R112, R116, R125). -/
theorem State.entryReturns_eq (h : s.oneEntryEach = true) {i : Nat} (he : s.entry i = some e) {f : Entry → Entry}
    (hindex : (f e).index = e.index) :
    ((s.changeEntry i f).reportTurnEnd i).deferredActions i = s.entryReturns e (f e) := by
  obtain ⟨hmem, rfl⟩ := State.mem_of_entry he
  have hnodup := State.indexes_nodup h
  have hchange : s.changeEntry e.index f = s.entriesTake [e] fun _ => (f e, none) :=
    State.entriesTake_of_changed hnodup hmem (f := fun _ => (f e, none)) rfl
  have hdeferred := State.deferredActions_eq
    (s := (s.entriesTake [e] fun _ => (f e, none)).withWalk (s.walk.map fun w => w.hearsTurnEnds [e.index]))
    (State.entriesTake_nodup hnodup hindex) (State.mem_entriesTake hmem (f e, none))
  rw [hindex] at hdeferred
  have hthen := State.entriesTake_then hnodup hmem hindex fun _ => (f e).takesDeferred (s.passed (f e))
  rw [hchange, State.reportTurnEnd_eq]
  refine hdeferred.trans ?_
  rw [State.entryReturns, ← hthen]
  rfl

end Deferred

/-! ## The end of a turn (R121, R122) -/

/-- The turn's entry goes on in its next state, or closes. -/
theorem State.endTurn_ends {s : State} (h : s.oneEntryEach = true) {i : Nat} {e : Entry} {wb : WriteBack}
    (he : s.entry i = some e) (hturn : e.turn = some (.writingBack wb)) :
    (∀ st, wb.after = .stays st → s.endTurn i = s.entryReturns e { e with turn := none, state := st })
      ∧ ∀ c, wb.after = .closes c → s.closesEntry (s.endTurn i) e c := by
  refine ⟨fun st hafter => ?_, fun c hafter => ?_⟩
  · have hreturns := State.entryReturns_eq h he (f := fun e => { e with turn := none, state := st }) rfl
    simpa [State.endTurn, State.writeBackOf, he, hturn, hafter] using hreturns
  · rw [State.endTurn_of_closes he hturn hafter]
    exact s.closeEntry_closes e c

end Sys2Proof.Machine
end

section
/-! Valid replies by the frame of their turn, and the write-back that follows (R11, R117 to R122). -/

namespace Sys2Proof.Machine

/-! ## The verdicts (R117 to R120) -/

section Verdicts
variable {e : Entry} {r : Reply} {limit : Nat} {passed : Bool}

/-- A verdict that counts one attempt, and at the attempt limit closes the entry (R120). -/
def Verdict.counts (v : Verdict) (e : Entry) (limit : Nat) (st : EntryState) (d : Option DeliveryState) : Prop :=
  v.attempts = e.attempts + 1
    ∧ v.wb =
      if e.attempts + 1 = limit then
        { confirm := false, delivery := some .noReply, after := .closes (.noReply (e.attempts + 1)) }
      else { confirm := false, delivery := d, after := .stays st }

theorem Entry.countsAttempt_counts (e : Entry) (limit : Nat) (st : EntryState) (d : Option DeliveryState) :
    (e.countsAttempt limit st d).counts e limit st d :=
  ⟨e.countsAttempt_attempts limit st d, e.countsAttempt_wb limit st d⟩

/-- A verdict that closes the change, with no attempt counted (R122). -/
def Verdict.closesAs (v : Verdict) (e : Entry) (confirm : Bool) (d : DeliveryState) (c : Closing) : Prop :=
  v.attempts = e.attempts ∧ v.wb = { confirm := confirm, delivery := some d, after := .closes c }

/-- The table of replies to an UPDATE frame (R117). -/
theorem Entry.judge_of_update (h : e.state = .waitingUpdate) :
    (r.result = .staged → r.staged = some e.version →
        e.judge r limit passed = .moves 0 (if passed then .waitingProbe else .heldStaged) (some .staged))
      ∧ (r.result = .staged → r.staged ≠ some e.version →
        (e.judge r limit passed).counts e limit .waitingUpdate none)
      ∧ (r.result = .shown → r.displayed = e.version →
        (e.judge r limit passed).closesAs e true .confirmed .confirmed)
      ∧ (r.result = .shown → r.displayed ≠ e.version → (e.judge r limit passed).counts e limit .waitingUpdate none)
      ∧ (r.result = .rejected →
        (e.judge r limit passed).closesAs e false .rejected (.rejected r.displayed))
      ∧ (r.result = .withdrawn → (e.judge r limit passed).counts e limit .waitingUpdate none) := by
  have hcounts := e.countsAttempt_counts limit
  simp only [Entry.judge, Entry.frame, h, Entry.judgeUpdate]
  cases r.result with
  | staged => by_cases hstaged : r.staged = some e.version <;> simp [hstaged, hcounts]
  | shown =>
    by_cases hshown : r.displayed = e.version <;>
      simp [hshown, hcounts, Verdict.closesAs, Entry.closes, Closing.delivery]
  | rejected => simp [Verdict.closesAs, Entry.closes, Closing.delivery]
  | withdrawn => simp [hcounts]

/-- The table of replies to a PROBE frame (R118). -/
theorem Entry.judge_of_probe (h : e.state = .waitingProbe) :
    (r.result = .shown → r.displayed = e.version →
        (e.judge r limit passed).closesAs e true .confirmed .confirmed)
      ∧ (r.result = .shown → r.displayed ≠ e.version → (e.judge r limit passed).counts e limit .waitingProbe none)
      ∧ (r.result = .rejected → (e.judge r limit passed).closesAs e false .rejected (.rejected r.displayed))
      ∧ (r.result = .staged → r.displayed ≠ e.version → r.staged = some e.version →
        (e.judge r limit passed).attempts = e.attempts
          ∧ (e.judge r limit passed).wb = { confirm := false, delivery := none, after := .stays .waitingProbe })
      ∧ (r.result = .staged → r.displayed ≠ e.version → r.staged ≠ some e.version →
        (e.judge r limit passed).counts e limit .waitingUpdate (some .pending))
      ∧ (r.result = .staged → r.displayed = e.version → (e.judge r limit passed).counts e limit .waitingProbe none)
      ∧ (r.result = .withdrawn → (e.judge r limit passed).counts e limit .waitingProbe none) := by
  have hcounts := e.countsAttempt_counts limit
  simp only [Entry.judge, Entry.frame, h, Entry.judgeProbe]
  cases r.result with
  | shown =>
    by_cases hshown : r.displayed = e.version <;>
      simp [hshown, hcounts, Verdict.closesAs, Entry.closes, Closing.delivery]
  | rejected => simp [Verdict.closesAs, Entry.closes, Closing.delivery]
  | staged =>
    by_cases hshown : r.displayed = e.version <;> by_cases hstaged : r.staged = some e.version <;>
      simp [hshown, hstaged, hcounts, Verdict.moves]
  | withdrawn => simp [hcounts]

/-- The table of replies to a WITHDRAW frame (R119). -/
theorem Entry.judge_of_withdraw (h : e.state = .waitingWithdraw) :
    (r.result = .withdrawn → (e.judge r limit passed).closesAs e false .cancelled .cancelled)
      ∧ (r.result = .shown → r.displayed = e.version →
        (e.judge r limit passed).closesAs e true .alreadyShown .alreadyShown)
      ∧ (r.result = .shown → r.displayed ≠ e.version → (e.judge r limit passed).counts e limit .waitingWithdraw none)
      ∧ (r.result = .rejected → (e.judge r limit passed).closesAs e false .rejected (.rejected r.displayed))
      ∧ (r.result = .staged → (e.judge r limit passed).counts e limit .waitingWithdraw none) := by
  have hcounts := e.countsAttempt_counts limit
  simp only [Entry.judge, Entry.frame, h, Entry.judgeWithdraw]
  cases r.result with
  | withdrawn => simp [Verdict.closesAs, Entry.closes, Closing.delivery]
  | shown =>
    by_cases hshown : r.displayed = e.version <;>
      simp [hshown, hcounts, Verdict.closesAs, Entry.closes, Closing.delivery]
  | rejected => simp [Verdict.closesAs, Entry.closes, Closing.delivery]
  | staged => simp [hcounts]

end Verdicts

theorem State.activationPassed_iff (s : State) (w : Word) :
    s.activationPassed w = true ↔ w = 0#32 ∨ w.toNat ≤ s.time.cycleTime.toNat := by
  simp [State.activationPassed]

theorem DeliveryState.code_eq (d : DeliveryState) : d.code = d.number := by cases d <;> rfl

/-! ## The write-back (R121, R122) -/

section WriteBack
variable {s : State} {i : Nat} {e : Entry} {wb : WriteBack}

theorem State.writeBackOf_eq (he : s.entry i = some e) (hturn : e.turn = some (.writingBack wb)) :
    s.writeBackOf i = some (e, wb) := by simp [State.writeBackOf, he, hturn]

/-- The third step asks for the delivery state, or has none to write (R121). -/
theorem State.writeBackDelivery_of (he : s.entry i = some e) (hturn : e.turn = some (.writingBack wb)) :
    (∀ d, wb.delivery = some d →
        s.writeBackDelivery i =
          { s with cache := { s.cache with
              deliveryRequests := s.cache.deliveryRequests ++ [deliveryWrite i d.number] } })
      ∧ (wb.delivery = none → s.writeBackDelivery i = s.endTurn i) := by
  refine ⟨fun d hd => ?_, fun hnone => ?_⟩
  · simp only [State.writeBackDelivery, State.writeBackOf_eq he hturn, hd, ← d.code_eq]
    rfl
  · simp [State.writeBackDelivery, State.writeBackOf_eq he hturn, hnone]

theorem State.statusWritten_of (he : s.entry i = some e) (hturn : e.turn = some (.writingBack wb)) :
    s.statusWritten i =
      if wb.confirm then s.askAir { index := i, op := .read [2], purpose := .confirmRead } else s.writeBackDelivery i := by
  simp [State.statusWritten, State.writeBackOf_eq he hturn]

/-- Q2 as the confirmation reads it: with no primary price the turn ends, and else Q1 takes it (R7, R122). -/
theorem State.confirmRead_of (he : s.entry i = some e) (hturn : e.turn = some (.writingBack wb)) (ws : List Word)
    (known : Bool) :
    s.confirmRead i ws known =
      if (confirmImage i ws known).primary = 0 then s.endTurn i
      else s.askAir
        { index := i, op := .write (confirmedWords (confirmImage i ws known) e.version), purpose := .confirmWrite } := by
  simp [State.confirmRead, State.writeBackOf_eq he hturn]

/-- The image of Q2 with its partner price by the kind in Q0, or by a free kind (R122, log 5). -/
theorem confirmImage_prices (i : Nat) (ws : List Word) (known : Bool) :
    let price := fun j : Nat => min 9999999 ((ws.getD j 0#32).extractLsb' 0 24).toNat
    (confirmImage i ws known).primary = price 8
      ∧ (known = true → (confirmImage i ws known).partner =
          if (ws.getD 0 0#32).extractLsb' 24 8 = 1#8 then price 9 else 0)
      ∧ ((confirmImage i ws known).partner = 0 ∨ (confirmImage i ws known).partner = price 9) := by
  intro price
  refine ⟨rfl, ?_, ?_⟩
  · rintro rfl
    have hpanel : recordIsPanel ws = true ↔ (ws.getD 0 0#32).extractLsb' 24 8 = 1#8 := by
      simp [recordIsPanel, bitsOf, recordWord, ← BitVec.toNat_inj]
    simp only [confirmImage, if_true, hpanel]
    rfl
  · simp only [confirmImage]
    generalize (if known = true then recordIsPanel ws else _) = panel
    cases panel with
    | false => exact .inl rfl
    | true => exact .inr rfl

end WriteBack

end Sys2Proof.Machine

namespace Sys2Proof.DeliveryRoster
open Sys2Proof.Machine

/-- Settles O30: a reply's verdict is that of its frame's table, and each answer takes the write-back to its next step. -/
theorem validRepliesFollowTheirTables : Obligations.ValidRepliesFollowTheirTables := by
  refine ⟨fun s x e frame r h hone hframe => ?_, fun s i e wb q ws qs ident he hturn hq hone => ?_⟩
  · intro status y z
    have happlies := State.reportReply_appliesResult h hone r
    refine ⟨_, (e.judge r s.attemptLimit (s.activationPassed e.activation)).attempts,
      (e.judge r s.attemptLimit (s.activationPassed e.activation)).wb,
      congrArg Host.Outcome.next (State.receiveFrame_of_valid h hframe), ?_, fun hstate => ?_,
      fun hstate => Entry.judge_of_probe hstate, fun hstate => Entry.judge_of_withdraw hstate⟩
    · convert happlies using 1
      cases s.time.liveRush <;> rfl
    · obtain ⟨hmoves, hothers⟩ := Entry.judge_of_update hstate
      refine ⟨fun hresult hstaged => ?_, hothers⟩
      rw [hmoves hresult hstaged]
      refine ⟨rfl, rfl, rfl, fun hpassed => ?_, fun hnot => ?_⟩
      · simp [Verdict.moves, (s.activationPassed_iff e.activation).mpr hpassed]
      · simp [Verdict.moves, mt (s.activationPassed_iff e.activation).mp hnot]
  · intro served faulted asksAir delivers ends thirdStep price writesQ1
    have hends : ends (s.endTurn i) := State.endTurn_ends hone he hturn
    have hthird : thirdStep (s.writeBackDelivery i) := by
      obtain ⟨hdelivers, hnone⟩ := State.writeBackDelivery_of he hturn
      exact ⟨hdelivers, fun h => (hnone h).symm ▸ hends⟩
    obtain rfl := hq
    refine ⟨fun hpurpose => ?_, fun hpurpose => ?_, fun hpurpose => ?_, fun hpurpose => ?_⟩
    · have hserved : served = s.statusWritten q.index := by simp [served, State.deliver, hpurpose]
      have hfaulted : faulted = s.statusWritten q.index := by simp [faulted, State.deliver, hpurpose]
      rw [hserved, hfaulted, State.statusWritten_of he hturn]
      refine ⟨fun hconfirm => ?_, fun hconfirm => ?_⟩
      · rw [hconfirm]
        exact ⟨rfl, rfl⟩
      · rw [hconfirm]
        exact ⟨hthird, hthird⟩
    · have hserved : served = s.confirmRead q.index ws (qs.contains 0) := by simp [served, State.deliver, hpurpose]
      have hfaulted : faulted = s.endTurn q.index := by simp [faulted, State.deliver, hpurpose]
      obtain ⟨hprimary, hknown, hfree⟩ := confirmImage_prices q.index ws (qs.contains 0)
      rw [State.confirmRead_of he hturn, hprimary] at hserved
      refine ⟨hfaulted ▸ hends, fun hempty => ?_, fun hpriced => ?_⟩
      · rw [hserved, if_pos hempty]
        exact hends
      · have hwrites : served = writesQ1 (confirmImage q.index ws (qs.contains 0)).partner := by
          rw [hserved, if_neg hpriced]
          rfl
        refine ⟨fun hmem => ?_, fun _ => ?_⟩
        · rw [hwrites, hknown (by simpa using hmem)]
        · exact hfree.imp (fun h => by rw [hwrites, h]) fun h => by rw [hwrites, h]
    · have hserved : served = s.writeBackDelivery q.index := by simp [served, State.deliver, hpurpose]
      have hfaulted : faulted = s.endTurn q.index := by simp [faulted, State.deliver, hpurpose]
      exact ⟨hfaulted ▸ hends, hserved ▸ hthird⟩
    · have hwritten : ∀ a, s.deliver q a ident = s.endTurn q.index := fun a =>
        (State.deliver_delivery hpurpose a ident).trans (State.deliveryWritten_of_turn he hturn)
      have hfaulted : faulted = s.endTurn q.index := hwritten .fault
      have hserved : served = s.endTurn q.index := hwritten (.served ws qs)
      exact ⟨hfaulted ▸ hends, hserved ▸ hends⟩

end Sys2Proof.DeliveryRoster
end

section
/-! A slot start: the slot that comes next, the entries taken for its turns, and the turn list they make (R22, R106, R114,
R115, R132, R134). -/

namespace Sys2Proof.Machine

/-! ## The slot that comes next (R22, R24) -/

theorem Timebase.nextSlot_of {t : Timebase} {k : Fin 64}
    (h : t.position = .beacon ∧ k.val = 0
      ∨ ∃ j : Fin 64, t.position = .slot j ∧ t.periodOver = true ∧ k.val = j.val + 1) : t.nextSlot = some k := by
  rcases h with ⟨hbeacon, hk⟩ | ⟨j, hslot, hover, hk⟩
  · simp only [Timebase.nextSlot, hbeacon]
    exact congrArg some (Fin.ext hk.symm)
  · have hj : j.val < 63 := by omega
    have hnext : j + 1 = k := Fin.ext (by rw [hk, Fin.val_add_one_of_lt' (by omega)])
    simp [Timebase.nextSlot, hslot, hover, hj, hnext]

theorem exec_slotStart {s : State} {k : Fin 64} (h : s.time.nextSlot = some k) :
    exec .slotStart s = .next (if s.host.active = some .halt then s.haltEnds else s.startSlot k) := by
  have hexec : exec .slotStart s = .next (s.nextPeriod fun s => s.startSlot k) := by
    show Host.Outcome.next _ = _
    rw [h]
  rw [hexec]
  by_cases hhalt : s.host.active = some .halt <;> simp [State.nextPeriod, State.halting, hhalt, State.completeHalt_eq]

/-! ## The entries taken (R114, R115) -/

theorem Entry.eligible_eq (e : Entry) (cycle : BitVec 16) : e.eligible cycle = e.mayTakeTurn cycle := by
  have hstate : (e.state != .heldStaged) =
      (e.state == .waitingUpdate || e.state == .waitingProbe || e.state == .waitingWithdraw) := by
    cases e.state <;> rfl
  simp only [Entry.eligible, Entry.mayTakeTurn, Entry.listensIn, Entry.busy, hstate, Bool.not_or, Option.not_isSome,
    Bool.and_assoc]

theorem Roster.selected_eq (r : Roster) (slot : Nat) (cycle : BitVec 16) :
    r.selected slot cycle = ((r.inListOrder slot).filter fun e => e.mayTakeTurn cycle).take 6 := by
  simp only [Roster.selected, Roster.slotList_eq, Entry.eligible_eq]
  rfl

/-! ## The turn list (R115, R134) -/

theorem turnsFrom_fields (k : Nat) (es : List Entry) :
    (turnsFrom k es).map (fun x => (x.number, x.frame, x.index, x.ident, x.version, x.activation)) =
      (es.zipIdx k).map fun p => (p.2, p.1.frame, p.1.index, p.1.ident, p.1.version, p.1.activation) := by
  induction es generalizing k with
  | nil => rfl
  | cons e rest ih => simp [turnsFrom, ih]

theorem turnsFrom_content {k : Nat} {es : List Entry} {x : AirTurn} (hx : x ∈ turnsFrom k es) :
    x.reported = false ∧ x.content = if x.frame = .update then .awaited else .ready [] := by
  induction es generalizing k with
  | nil => cases hx
  | cons e rest ih =>
    rcases List.mem_cons.mp hx with rfl | hrest
    · exact ⟨rfl, rfl⟩
    · exact ih hrest

theorem State.askTurnReads_eq (s : State) (turns : List AirTurn) :
    s.askTurnReads turns =
      { s with cache := { s.cache with airRequests :=
          s.cache.airRequests ++ (turns.filter fun x => x.frame == .update).map AirTurn.readRequest } } := by
  unfold State.askTurnReads
  generalize turns.filter (fun x => x.frame == .update) = reads
  induction reads generalizing s with
  | nil => simp
  | cons x rest ih =>
    rw [List.foldl_cons, ih]
    simp [State.askAir, State.onCache]

/-! ## The start of a slot in an ACTIVE radio (R132) -/

/-- The entries that a slot start takes, as the roster lists them. -/
def State.takenAt (s : State) (k : Fin 64) : List Entry := s.roster.selected k.val s.time.cycleNumber

theorem State.startSlot_of_active {s : State} (k : Fin 64) (hactive : s.air.radio = .active) :
    s.startSlot k =
      { s with
        time := { s.time with position := .slot k, periodOver := false, periodMs := 0 }
        air := { s.air with
          turns := turnsFrom 1 (s.takenAt k), stage := if s.takenAt k = [] then .idle else .slotSense 0 }
        roster := { s.roster with
          entries := s.roster.entries.map fun e =>
            if e.index ∈ (s.takenAt k).map (·.index) then { e with turn := some .exchanging } else e }
        cache := { s.cache with airRequests :=
          s.cache.airRequests ++
            ((turnsFrom 1 (s.takenAt k)).filter fun x => x.frame == .update).map AirTurn.readRequest } } := by
  have henter : ∀ t : State, t.enterTurns ((s.takenAt k).map (·.index)) =
      { t with roster := { t.roster with
          entries := t.roster.entries.map fun e =>
            if e.index ∈ (s.takenAt k).map (·.index) then { e with turn := some .exchanging } else e } } := by
    intro t
    simp [State.enterTurns, State.onRoster]
  have hstart : s.startSlot k =
      ((({ s with
        time := { s.time with position := .slot k, periodOver := false, periodMs := 0 }
        air := { s.air with turns := [], stage := .idle } } : State).enterTurns
          ((s.takenAt k).map (·.index))).receiveTurns k.val (turnsFrom 1 (s.takenAt k))) := rfl
  rw [hstart, henter]
  cases htaken : s.takenAt k with
  | nil => simp [turnsFrom, State.receiveTurns]
  | cons e rest =>
    rw [State.receiveTurns, if_neg (by simp [turnsFrom]), if_pos (by simp [State.radioActive, hactive]),
      State.askTurnReads_eq]
    simp [State.onAir]

end Sys2Proof.Machine

namespace Sys2Proof.DeliveryRoster
open Sys2Proof.Machine

/-- Settles O36: HALT completes in the slot's place, or the slot starts with the entries it takes. -/
theorem slotStartTakesTheFirstSix : Obligations.SlotStartTakesTheFirstSix := by
  intro s k hk
  have hexec := exec_slotStart (Timebase.nextSlot_of hk)
  refine ⟨fun hhalt => by rw [hexec, if_pos hhalt], fun hnot hactive => ?_⟩
  rw [hexec, if_neg hnot]
  intro chosen
  have hchosen : s.takenAt k = chosen := s.roster.selected_eq k.val s.time.cycleNumber
  refine ⟨_, rfl, ?_⟩
  rw [State.startSlot_of_active k hactive, hchosen]
  exact ⟨rfl, turnsFrom_fields 1 chosen, fun x => turnsFrom_content, rfl, rfl, rfl, rfl⟩

end Sys2Proof.DeliveryRoster
end

section
/-! A state in which the ticket table lists one slot twice, and the count of an application in it (R46, R50, R68). The settlement
of the slot takes the first of the two contexts off the table, and the one behind it, which has no tallies, is then counted
in. -/

namespace Sys2Proof.Machine

/-! ## The state -/

/-- A DELIVERING ticket with one change confirmed and none entered: the next entry leaves it none alive. -/
def confirmedTicket : Ticket :=
  { state := .delivering, cls := .overnight, sequence := 0#32, chainBase := 0, firstLink := .null, cardLimit := 1,
    activation := 0#32, deadline := 0#32, listAddress := 0, listCapacity := 0,
    tallies := (List.replicate 17 0#32).set 8 1#32, entriesWritten := 0, overflow := 0, progressMark := 0,
    outcome := none, reason := .none, stopCard := none, cancelled := false, expired := false, expiryDue := false,
    lastCard := none }

/-- A PRICE card of index 0 with a next link that is not NULL. -/
def pricedCard : Card := { w0 := 1#32, w4 := 0x20000#32, w8 := 1#32, w12 := 0#32, w16 := 0#32 }

def pricedApplication : Application := { card := pricedCard, cardNumber := 0, index := 0, fromEntry := false }

def pricedStaging : Staging :=
  { ident := 1#24, image := { primary := 1, partner := 0, unit := 0, badges := 0 }, clamped := false, raw := 1,
    version := 1#16 }

/-- A walk of slot 0 whose Q2 write is under way, with no request held. -/
def stagingWalk : Walk :=
  { slot := 0, link := .short 0#16, next := .nextCard, stack := [], span := none, parkRequest := false,
    endRequest := none, fresh := false, body := false, phase := .writing pricedApplication pricedStaging }

/-- The decision of slot 0 for an index without an entry. -/
def decidedEntry : NewEntry :=
  { index := 0, ident := 1#24, slot := 0, phase := 0, exponent := 0, rushing := false, rushDay := 0,
    decision := { ticket := 0, cls := .overnight, activation := 0#32, version := 1#16 } }

/-- Slot 0 is listed twice, the second time with a context that has no tallies. -/
def listedTwice : State :=
  { State.reset with
    unit := { TicketUnit.reset with tickets := [(0, confirmedTicket), (0, { confirmedTicket with tallies := [] })] }
    walk := some stagingWalk
    roster := { entries := [], newEntry := some decidedEntry } }

/-- The write of Q2 that the walk waits for. -/
def stagingRequest : Request := { index := 0, op := .write [], purpose := .stageImage }

/-! ## What its Q2 write's completion does -/

/-- Every ticket that a slot names has its seventeen tallies. -/
theorem listedTwice_tallies (n : Nat) (k : Ticket) (hk : listedTwice.ticket n = some k) : k.tallies.length = 17 := by
  cases n with
  | zero => rw [← Option.some.inj hk]; rfl
  | succ n => simp [State.ticket, listedTwice, assocFind] at hk

/-- The new entry settles slot 0, and the context behind is found under the slot (R50). -/
theorem listedTwice_settles :
    (listedTwice.completeDecision 0).ticket 0 = some { confirmedTicket with tallies := [] } := by decide +kernel

/-- A context without tallies has none to count: the word of the applied tally is written 0. -/
theorem listedTwice_delivered :
    (listedTwice.deliver stagingRequest (.served [] []) 0#24).ram.word 28 = 0#32 := by decide +kernel

/-- The statement asks for one more than what such a context gives, which is 0. -/
theorem listedTwice_tallied : ((listedTwice.completeDecision 0).tallied 0 1).ram.word 28 = 1#32 := by
  simp only [State.tallied, listedTwice_settles]
  decide +kernel

theorem stagingWalk_afterward :
    stagingWalk.afterward (linkOfWord pricedCard.w4) = some (stagingWalk.goesOnAt (.short 0#16)) := by decide +kernel

end Sys2Proof.Machine

namespace Sys2Proof.DeliveryRoster
open Sys2Proof.Machine

/-- Refutes O28: its third part asks for tallies of every ticket held before the write's completion, but not that the ticket
table lists each slot once. In `listedTwice` the decision settles slot 0, and the applied tally is then counted in a context
that has none: the word written is 0, where the statement's count makes it 1. -/
theorem not_expiryAndCancellationActByState : ¬ Obligations.ExpiryAndCancellationActByState := by
  rintro ⟨-, -, hstaged, -, -⟩
  obtain ⟨hcompletes, -⟩ := hstaged listedTwice stagingWalk pricedApplication pricedStaging stagingRequest [] [] 0#24
    rfl rfl rfl listedTwice_tallies
  have hreaches : ((listedTwice.completeDecision 0).tallied 0 1).reaches
      (listedTwice.deliver stagingRequest (.served [] []) 0#24) stagingWalk
      (stagingWalk.afterward (linkOfWord pricedCard.w4)) := hcompletes
  rw [stagingWalk_afterward] at hreaches
  obtain ⟨hgoes, -⟩ := hreaches
  have hword := listedTwice_delivered
  rw [hgoes rfl] at hword
  exact absurd (listedTwice_tallied.symm.trans hword) (by decide)

end Sys2Proof.DeliveryRoster
end

section
/-! Turns without a result: what the entries of a slot that return make of the roster, its requests and the walk (R72, R107,
R116, R125). -/

namespace Sys2Proof.Machine

/-! ## One entry that returns (R116) -/

theorem Entry.takesDeferred_index (e : Entry) (passed : Bool) : (e.takesDeferred passed).1.index = e.index := by
  rw [Entry.takesDeferred_eq]
  have hindex := (e.takesDeferredCancel_spec passed).1
  split
  · rw [Entry.takesExpiry_index, hindex]
  · exact hindex

/-- What the end of its turn without a result makes of an entry, and the removal it begins (R116, R125). -/
def Entry.returns (passed : Bool) (e : Entry) : Entry × Option Closing :=
  ({ e with turn := none } : Entry).takesDeferred passed

theorem Entry.returns_index (passed : Bool) (e : Entry) : (e.returns passed).1.index = e.index :=
  Entry.takesDeferred_index _ _

/-- An entry that returns with no deferred action stands as before its turn. -/
theorem Entry.returns_of_undeferred {e : Entry} (hturn : e.turn = none) (hcancel : e.deferCancel = false)
    (hexpiry : e.deferExpiry = false) (t : EntryTurn) (passed : Bool) :
    ({ e with turn := some t } : Entry).returns passed = (e, none) := by
  cases e
  simp_all [Entry.returns, Entry.takesDeferred]

/-- The entry is IN_TURN without a result. -/
def Entry.inExchange (e : Entry) : Bool := e.turn == some .exchanging

section Returns
variable {s : State} {e : Entry}

theorem State.returnEntry_of_exchanging (h : s.oneEntryEach = true) (he : e ∈ s.roster.entries)
    (hturn : e.inExchange = true) : s.returnEntry e.index = s.entryReturns e { e with turn := none } := by
  have hentry := State.entry_of_mem (State.indexes_nodup h) he
  have hreturns := State.entryReturns_eq h hentry (f := fun e => { e with turn := none }) rfl
  rw [← hreturns]
  simp [State.returnEntry, hentry, show e.turn = some .exchanging from by simpa [Entry.inExchange] using hturn]

theorem State.returnEntry_of_other (h : s.oneEntryEach = true) (he : e ∈ s.roster.entries)
    (hturn : e.inExchange = false) : s.returnEntry e.index = s := by
  have hentry := State.entry_of_mem (State.indexes_nodup h) he
  simp [State.returnEntry, hentry, show e.turn ≠ some .exchanging from by simpa [Entry.inExchange] using hturn]

end Returns

/-! ## The entries of a slot that return (R116; log 52) -/

/-- Some entries have returned, in the order listed, and the walker has heard of each. -/
def State.turnsReturn (s : State) (which : List Entry) : State :=
  (s.entriesTake which fun e => e.returns (s.passed e)).withWalk
    (s.walk.map fun w => w.hearsTurnEnds (which.map (·.index)))

theorem Walk.hearsTurnEnds_nil (w : Walk) : w.hearsTurnEnds [] = w := by
  unfold Walk.hearsTurnEnds
  split <;> simp

theorem Walk.hearsTurnEnds_of_stall {w : Walk} {app : Application} {retry : Bool} (h : w.phase = .turnStall app retry)
    (l : List Nat) : w.hearsTurnEnds l = if app.index ∈ l then { w with phase := .turnStall app true } else w := by
  simp [Walk.hearsTurnEnds, h]

theorem Walk.hearsTurnEnds_of_other {w : Walk} (h : ∀ app retry, w.phase ≠ .turnStall app retry) (l : List Nat) :
    w.hearsTurnEnds l = w := by
  unfold Walk.hearsTurnEnds
  split
  · exact absurd ‹_› (h _ _)
  · rfl

theorem Walk.hearsTurnEnds_cons (w : Walk) (i : Nat) (l : List Nat) :
    (w.hearsTurnEnds [i]).hearsTurnEnds l = w.hearsTurnEnds (i :: l) := by
  by_cases hstall : ∃ app retry, w.phase = .turnStall app retry
  · obtain ⟨app, retry, hphase⟩ := hstall
    by_cases hi : app.index = i
    · rw [Walk.hearsTurnEnds_of_stall hphase, Walk.hearsTurnEnds_of_stall hphase, if_pos (by simp [hi]),
        if_pos (by simp [hi]), Walk.hearsTurnEnds_of_stall (app := app) (retry := true) rfl, ite_self]
    · simp [Walk.hearsTurnEnds_of_stall hphase, hi]
  · have hother : ∀ app retry, w.phase ≠ .turnStall app retry := fun app retry h => hstall ⟨app, retry, h⟩
    simp only [Walk.hearsTurnEnds_of_other hother]

theorem State.turnsReturn_nil (s : State) : s.turnsReturn [] = s := by
  simp [State.turnsReturn, State.entriesTake, State.withWalk, Walk.hearsTurnEnds_nil]

/-- The action on one entry alone may be given by what it makes of that entry. -/
theorem State.entriesTake_const (s : State) (e : Entry) (f : Entry → Entry × Option Closing) :
    (s.entriesTake [e] fun _ => f e) = s.entriesTake [e] f := by
  have hmap : ∀ x, (if x ∈ [e] then (f e).1 else x) = if x ∈ [e] then (f x).1 else x := by
    intro x
    by_cases hx : x = e <;> simp [hx]
  simp only [State.entriesTake, hmap, List.filterMap_cons, List.filterMap_nil]

theorem State.entryReturns_unturned (s : State) (e : Entry) :
    s.entryReturns e { e with turn := none } = s.turnsReturn [e] := by
  rw [State.turnsReturn, ← State.entriesTake_const]
  rfl

/-- One entry returns, then others that are none of it. -/
theorem State.turnsReturn_cons {s : State} (e : Entry) {rest : List Entry} (hnot : e.index ∉ rest.map (·.index)) :
    (s.turnsReturn [e]).turnsReturn rest = s.turnsReturn (e :: rest) := by
  have htakes := State.entriesTake_cons (s := s) (f := fun e => e.returns (s.passed e)) e
    (fun e => Entry.returns_index _ e) hnot
  have hwalk : (s.walk.map fun w => w.hearsTurnEnds [e.index]).map (fun w => w.hearsTurnEnds (rest.map (·.index))) =
      s.walk.map fun w => w.hearsTurnEnds ((e :: rest).map (·.index)) := by
    simp only [Option.map_map, Function.comp_def, Walk.hearsTurnEnds_cons, List.map_cons]
  calc (s.turnsReturn [e]).turnsReturn rest
    _ = ((s.entriesTake [e] fun e => e.returns (s.passed e)).entriesTake rest fun e => e.returns (s.passed e)).withWalk
          ((s.walk.map fun w => w.hearsTurnEnds [e.index]).map fun w => w.hearsTurnEnds (rest.map (·.index))) := rfl
    _ = s.turnsReturn (e :: rest) := by rw [htakes, hwalk, State.turnsReturn]

/-- The entries of a list are asked to return one by one; those that are IN_TURN without a result do. -/
theorem State.foldl_returnEntry {s : State} (h : s.oneEntryEach = true) {which : List Entry}
    (hwhich : (which.map (·.index)).Nodup) (hmem : ∀ e ∈ which, e ∈ s.roster.entries) :
    (which.map (·.index)).foldl State.returnEntry s = s.turnsReturn (which.filter Entry.inExchange) := by
  induction which generalizing s with
  | nil => exact s.turnsReturn_nil.symm
  | cons e rest ih =>
    rw [List.map_cons, List.nodup_cons] at hwhich
    obtain ⟨hnot, hrest⟩ := hwhich
    rw [List.forall_mem_cons] at hmem
    obtain ⟨he, hmem⟩ := hmem
    rw [List.map_cons, List.foldl_cons]
    cases hturn : e.inExchange with
    | false => rw [State.returnEntry_of_other h he hturn, ih h hrest hmem, List.filter_cons_of_neg (by simp [hturn])]
    | true =>
      have hreturns : s.returnEntry e.index = s.turnsReturn [e] :=
        (State.returnEntry_of_exchanging h he hturn).trans (s.entryReturns_unturned e)
      have hleft : ∀ x ∈ rest, x ∈ (s.turnsReturn [e]).roster.entries := fun x hx => by
        have hne : x ≠ e := fun heq => hnot (List.mem_map.mpr ⟨x, hx, by rw [heq]⟩)
        exact List.mem_map.mpr ⟨x, hmem x hx, by simp [hne]⟩
      have hnotIn : e.index ∉ (rest.filter Entry.inExchange).map (·.index) := fun hin =>
        hnot ((List.filter_sublist.map _).subset hin)
      rw [hreturns, ih (by rw [← hreturns, State.returnEntry_oneEntryEach, h]) hrest hleft,
        State.turnsReturn_cons e hnotIn, List.filter_cons_of_pos hturn]

theorem Roster.inListOrder_indexes_nodup {r : Roster} (h : (r.entries.map (·.index)).Nodup) (slot : Nat) :
    ((r.inListOrder slot).map (·.index)).Nodup :=
  (Roster.inListOrder_nodup h.of_map slot).map_on fun _ hx _ hy hindex =>
    Entry.eq_of_index h (Roster.mem_of_mem_inListOrder hy).1 (Roster.mem_of_mem_inListOrder hx).1 hindex

/-- The entries of a slot that are IN_TURN without a result, in list order. -/
def State.endingAt (s : State) (slot : Nat) : List Entry := (s.roster.inListOrder slot).filter Entry.inExchange

theorem State.slotReturns_eq (s : State) (slot : Nat) : s.slotReturns slot = s.turnsReturn (s.endingAt slot) := rfl

/-- The entries of a slot that are IN_TURN without a result return, one after another in list order (R116, R125; log 52). -/
theorem State.returnEntries_eq {s : State} (h : s.oneEntryEach = true) (slot : Nat) :
    s.returnEntries slot = s.slotReturns slot := by
  rw [State.returnEntries, Roster.slotList_eq, State.slotReturns_eq]
  exact State.foldl_returnEntry h (Roster.inListOrder_indexes_nodup (State.indexes_nodup h) slot)
    fun _ he => (Roster.mem_of_mem_inListOrder he).1

end Sys2Proof.Machine
end

section
/-! The slots of the air that lose or end their turns: a slot start in FAULT, the senses of a slot, and the slot end (R116,
R133 to R135, R140, R141). -/

namespace Sys2Proof.Machine

/-! ## Withdrawn reads (R134, R149) -/

theorem Request.isTurnRead_eq (q : Request) : q.isTurnRead = q.readsForTurn := by
  unfold Request.isTurnRead Request.readsForTurn
  cases q.purpose <;> rfl

theorem Cache.withdrawTurnReads_eq (c : Cache) : c.withdrawTurnReads = c.withoutTurnReads := by
  simp only [Cache.withdrawTurnReads, Cache.withoutTurnReads, funext Request.isTurnRead_eq]

/-! ## The slot in progress (R22) -/

theorem Timebase.openSlot_of {t : Timebase} {k : Fin 64} (hslot : t.position = .slot k) (hopen : t.periodOver = false) :
    t.openSlot = some k := by simp [Timebase.openSlot, hslot, hopen]

/-- The turns of the slot are cleared with the reads that wait for them, and the controller is idle. -/
def State.turnsCleared (s : State) (a : AirLink) : State :=
  { s with cache := s.cache.withoutTurnReads, air := { a with turns := [], stage := .idle } }

theorem State.turnsCleared_returnEntries {s : State} (h : s.oneEntryEach = true) (a : AirLink) (slot : Nat) :
    (s.turnsCleared a).returnEntries slot = (s.slotReturns slot).turnsCleared a :=
  State.returnEntries_eq (s := s.turnsCleared a) h slot

/-! ## The slot end (R116, R140; logs 27, 46, 52) -/

/-- The period's slot has had its end (R22). -/
def State.periodEnded (s : State) : State := s.onTime fun t => { t with periodOver := true }

/-- The slot is over: its entries have returned, and its turns and their reads are gone. -/
def State.slotOver (s : State) (k : Fin 64) : State := (s.slotReturns k.val).periodEnded.turnsCleared s.air

theorem State.endSlot_eq {s : State} (h : s.oneEntryEach = true) (k : Fin 64) :
    s.endSlot k = if s.host.active = some .halt then (s.slotOver k).haltEnds else s.slotOver k := by
  have hend : s.endSlot k = ((s.periodEnded.turnsCleared s.air).returnEntries k.val).nextPeriod id := by
    rw [State.turnsCleared, ← Cache.withdrawTurnReads_eq]
    rfl
  have hreturns : (s.periodEnded.turnsCleared s.air).returnEntries k.val = s.slotOver k :=
    State.turnsCleared_returnEntries (s := s.periodEnded) h s.air k.val
  rw [hend, hreturns, State.nextPeriod, State.completeHalt_eq]
  simp [State.halting, show (s.slotOver k).host = s.host from rfl]

theorem exec_slotEnd {s : State} {k : Fin 64} (hslot : s.time.position = .slot k) (hopen : s.time.periodOver = false) :
    exec .slotEnd s = .next (s.endSlot k) := by
  simp [exec, execSlotEnd, Timebase.openSlot_of hslot hopen]

/-! ## The senses of a slot (R133 to R135) -/

/-- The frame of the turn can be sent. -/
def AirTurn.sendable (x : AirTurn) : Bool :=
  match x.content with
  | .ready _ => true
  | .awaited | .dropped => false

theorem AirTurn.dropAwaited_named (x : AirTurn) : x.dropAwaited.named = x.sendable := by
  cases hcontent : x.content <;> simp [AirTurn.dropAwaited, AirTurn.named, AirTurn.sendable, hcontent]

theorem AirTurn.dropAwaited_of_sendable {x : AirTurn} (h : x.sendable = true) : x.dropAwaited = x := by
  refine if_neg fun hawaited => ?_
  simp [AirTurn.sendable, hawaited] at h

/-- The roll call names the turns whose frames can be sent. -/
theorem filter_named_dropAwaited (turns : List AirTurn) :
    (turns.map AirTurn.dropAwaited).filter AirTurn.named = turns.filter AirTurn.sendable := by
  rw [List.filter_map, show AirTurn.named ∘ AirTurn.dropAwaited = AirTurn.sendable from funext AirTurn.dropAwaited_named]
  exact (List.map_congr_left fun x hx => AirTurn.dropAwaited_of_sendable (List.mem_filter.mp hx).2).trans (List.map_id _)

theorem any_named_dropAwaited (turns : List AirTurn) :
    (turns.map AirTurn.dropAwaited).any AirTurn.named = true ↔ turns.filter AirTurn.sendable ≠ [] := by
  rw [← filter_named_dropAwaited, ne_eq, List.filter_eq_nil_iff]
  simp

theorem State.dropAwaitedTurns_eq (s : State) :
    s.dropAwaitedTurns =
      { s with
        cache := s.cache.withoutTurnReads
        air := { s.air with turns := s.air.turns.map AirTurn.dropAwaited } } := by
  rw [← Cache.withdrawTurnReads_eq]
  rfl

theorem State.sendRollCall_of_some {s : State} (slot : Nat) (h : s.air.turns.filter AirTurn.sendable ≠ []) :
    s.sendRollCall slot =
      { s with
        cache := s.cache.withoutTurnReads
        air := { s.air with
          stage := .serving 0 false
          lostSlots := 0
          onAir := some (rollCallFrame s.cellCode slot (s.air.turns.map AirTurn.dropAwaited))
          keyedMs := if s.air.onAir.isSome then s.air.keyedMs else 0
          turns := s.air.turns.map AirTurn.dropAwaited } } := by
  rw [State.sendRollCall, State.dropAwaitedTurns_eq]
  exact if_pos ((any_named_dropAwaited _).mpr h)

theorem State.sendRollCall_of_none {s : State} (slot : Nat) (h : s.air.turns.filter AirTurn.sendable = []) :
    s.sendRollCall slot =
      { s with
        cache := s.cache.withoutTurnReads
        air := { s.air with stage := .idle, turns := s.air.turns.map AirTurn.dropAwaited } } := by
  rw [State.sendRollCall, State.dropAwaitedTurns_eq]
  exact if_neg fun hany => (any_named_dropAwaited _).mp hany h

/-- The third busy sense: the slot is counted as lost, and its entries return (R133; logs 46, 52). -/
theorem State.loseSlot_eq {s : State} (h : s.oneEntryEach = true) (slot : Nat) :
    s.loseSlot slot =
      { s.slotReturns slot with
        cache := (s.slotReturns slot).cache.withoutTurnReads
        air := { s.air with turns := [], stage := .idle, lostSlots := moreLost s.air.lostSlots }
        host :=
          if 16 ≤ moreLost s.air.lostSlots then { s.host with attention := s.host.attention ||| 0x080#9 } else s.host } := by
  have hlose : s.loseSlot slot =
      ((s.turnsCleared { s.air with lostSlots := moreLost s.air.lostSlots }).returnEntries slot).latchIf
        (decide (16 ≤ moreLost s.air.lostSlots)) .channelBusy := by
    rw [State.loseSlot, State.dropAwaitedTurns_eq]
    rfl
  rw [hlose, State.turnsCleared_returnEntries h, State.latchIf]
  by_cases hmany : 16 ≤ moreLost s.air.lostSlots <;> simp only [hmany, decide_true, decide_false, if_true] <;> rfl

theorem exec_slotSense {s : State} {n : Nat} {k : Fin 64} (hstage : s.air.stage = .slotSense n)
    (hslot : s.time.position = .slot k) (hopen : s.time.periodOver = false) (hactive : s.air.radio = .active)
    (busy : Bool) :
    exec (.slotSense busy) s =
      .next (if busy then (if n + 1 < 3 then s.setStage (.slotSense (n + 1)) else s.loseSlot k.val)
        else s.sendRollCall k.val) := by
  simp [exec, execSlotSense, State.senseSlot, hstage, Timebase.openSlot_of hslot hopen, State.radioActive, hactive]

/-! ## A slot start in FAULT (R141) -/

theorem Roster.mem_inListOrder_iff {r : Roster} {slot : Nat} {e : Entry} :
    e ∈ r.inListOrder slot ↔ e ∈ r.entries ∧ e.slot = slot := by
  refine ⟨Roster.mem_of_mem_inListOrder, fun ⟨hmem, hslot⟩ => ?_⟩
  cases hcls : e.cls <;> simp [Roster.inListOrder, hmem, hslot, hcls]

theorem Walk.hearsTurnEnds_congr (w : Walk) {l m : List Nat} (h : ∀ i, i ∈ l ↔ i ∈ m) :
    w.hearsTurnEnds l = w.hearsTurnEnds m := by
  simp only [Walk.hearsTurnEnds, h]

/-- The entry IN_TURN without a result. -/
def Entry.taken (e : Entry) : Entry := { e with turn := some .exchanging }

/-- Some entries become IN_TURN. -/
def State.entriesTaken (s : State) (which : List Entry) : State :=
  { s with roster := { s.roster with entries := s.roster.entries.map fun e => if e ∈ which then e.taken else e } }

/-- The slot has started, and nothing is known of its turns yet. -/
def State.slotBegun (s : State) (k : Fin 64) : State :=
  { s with
    time := { s.time with position := .slot k, periodOver := false, periodMs := 0 }
    air := { s.air with turns := [], stage := .idle } }

theorem State.enterTurns_eq {s : State} (h : (s.roster.entries.map (·.index)).Nodup) {which : List Entry}
    (hmem : ∀ e ∈ which, e ∈ s.roster.entries) : s.enterTurns (which.map (·.index)) = s.entriesTaken which := by
  have hmap : s.roster.entries.map (fun e => if (which.map (·.index)).contains e.index then e.taken else e) =
      s.roster.entries.map fun e => if e ∈ which then e.taken else e := by
    refine List.map_congr_left fun e he => ?_
    have hiff : (which.map (·.index)).contains e.index = true ↔ e ∈ which := by
      rw [List.contains_iff_mem, List.mem_map]
      exact ⟨fun ⟨x, hx, hindex⟩ => Entry.eq_of_index h he (hmem x hx) hindex ▸ hx, fun hin => ⟨e, hin, rfl⟩⟩
    simp only [hiff]
  rw [State.entriesTaken, ← hmap]
  rfl

theorem State.entriesTaken_oneEntryEach (s : State) (which : List Entry) :
    (s.entriesTaken which).oneEntryEach = s.oneEntryEach :=
  State.mapEntries_oneEntryEach (f := fun e => if e ∈ which then e.taken else e) fun e => by split <;> rfl

theorem State.mem_takenAt {s : State} {k : Fin 64} {e : Entry} (he : e ∈ s.takenAt k) :
    e ∈ s.roster.inListOrder k.val ∧ e.turn = none := by
  rw [State.takenAt, Roster.selected_eq] at he
  obtain ⟨hlist, hmay⟩ := List.mem_filter.mp (List.mem_of_mem_take he)
  simp only [Entry.mayTakeTurn, Bool.and_eq_true, Option.isNone_iff_eq_none] at hmay
  exact ⟨hlist, hmay.1.1.2⟩

theorem State.startSlot_of_fault {s : State} (h : s.oneEntryEach = true) (k : Fin 64) (hfault : s.air.radio = .fault) :
    s.startSlot k =
      if s.takenAt k = [] then s.slotBegun k
      else ((s.slotBegun k).entriesTaken (s.takenAt k)).slotReturns k.val := by
  have henter : (s.slotBegun k).enterTurns ((s.takenAt k).map (·.index)) =
      (s.slotBegun k).entriesTaken (s.takenAt k) :=
    State.enterTurns_eq (s := s.slotBegun k) (State.indexes_nodup h)
      fun e he => (Roster.mem_of_mem_inListOrder (State.mem_takenAt he).1).1
  have hstart : s.startSlot k =
      ((s.slotBegun k).enterTurns ((s.takenAt k).map (·.index))).receiveTurns k.val (turnsFrom 1 (s.takenAt k)) := rfl
  rw [hstart, henter]
  cases htaken : s.takenAt k with
  | nil => simp [turnsFrom, State.receiveTurns, State.entriesTaken]
  | cons e rest =>
    have hidle : ((s.slotBegun k).entriesTaken (e :: rest)).radioActive = false := by
      simp [State.radioActive, State.entriesTaken, State.slotBegun, hfault]
    rw [State.receiveTurns, if_neg (by simp [turnsFrom]), if_neg (by simp [hidle]), if_neg (by simp)]
    exact State.returnEntries_eq (by rw [State.entriesTaken_oneEntryEach]; exact h) k.val

section Undeferred
variable {s : State} {slot : Nat} {which : List Entry}
  (hwhich : ∀ e ∈ which, e ∈ s.roster.inListOrder slot ∧ e.turn = none)
  (hfree : ∀ e ∈ s.roster.entries, e.turn ≠ some .exchanging ∧ e.deferCancel = false ∧ e.deferExpiry = false)
include hwhich hfree

theorem State.taken_returns {e : Entry} (he : e ∈ which) (passed : Bool) : e.taken.returns passed = (e, none) :=
  have ⟨hlist, hturn⟩ := hwhich e he
  have ⟨_, hcancel, hexpiry⟩ := hfree e (Roster.mem_of_mem_inListOrder hlist).1
  Entry.returns_of_undeferred hturn hcancel hexpiry .exchanging passed

/-- The entries that end a turn at the slot are those just taken. -/
theorem State.mem_endingAt_entriesTaken {x : Entry} :
    x ∈ (s.entriesTaken which).endingAt slot ↔ ∃ e ∈ which, e.taken = x := by
  rw [State.endingAt, List.mem_filter, Roster.mem_inListOrder_iff]
  constructor
  · rintro ⟨⟨hmem, -⟩, hturn⟩
    obtain ⟨e, he, rfl⟩ := List.mem_map.mp hmem
    by_cases hin : e ∈ which
    · exact ⟨e, hin, (if_pos hin).symm⟩
    · rw [if_neg hin] at hturn
      exact absurd (by simpa [Entry.inExchange] using hturn) (hfree e he).1
  · rintro ⟨e, hin, rfl⟩
    obtain ⟨hmem, hslot⟩ := Roster.mem_of_mem_inListOrder (hwhich e hin).1
    exact ⟨⟨List.mem_map.mpr ⟨e, hmem, if_pos hin⟩, hslot⟩, rfl⟩

theorem State.entriesTaken_take_returns :
    (s.entriesTaken which).entriesTake ((s.entriesTaken which).endingAt slot) (fun e => e.returns (s.passed e)) = s := by
  have hending := fun x => State.mem_endingAt_entriesTaken (x := x) hwhich hfree
  have hreturns := fun e he => State.taken_returns (e := e) hwhich hfree he
  have hentries : ∀ e ∈ s.roster.entries,
      (if (if e ∈ which then e.taken else e) ∈ (s.entriesTaken which).endingAt slot
        then ((if e ∈ which then e.taken else e).returns (s.passed (if e ∈ which then e.taken else e))).1
        else if e ∈ which then e.taken else e) = e := by
    intro e he
    by_cases hin : e ∈ which
    · rw [if_pos hin, if_pos ((hending _).mpr ⟨e, hin, rfl⟩), hreturns e hin]
    · have hnot : e ∉ (s.entriesTaken which).endingAt slot := fun hmem => by
        obtain ⟨x, -, rfl⟩ := (hending e).mp hmem
        exact (hfree _ he).1 rfl
      rw [if_neg hin, if_neg hnot]
  have hrequests : (((s.entriesTaken which).endingAt slot).filterMap fun e =>
      (e.returns (s.passed e)).2.map fun c => deliveryWrite e.index c.shows) = [] := by
    refine List.filterMap_eq_nil_iff.mpr fun x hx => ?_
    obtain ⟨e, hin, rfl⟩ := (hending x).mp hx
    rw [hreturns e hin]
    rfl
  have hmap : (s.entriesTaken which).roster.entries.map (fun e =>
      if e ∈ (s.entriesTaken which).endingAt slot then (e.returns (s.passed e)).1 else e) = s.roster.entries :=
    List.map_map.trans ((List.map_congr_left hentries).trans (List.map_id _))
  rw [State.entriesTake, hmap, hrequests, List.append_nil]
  rfl

/-- Of entries that hold no deferred action, those taken for turns stand as before once they have returned (R116, R141). -/
theorem State.entriesTaken_slotReturns :
    (s.entriesTaken which).slotReturns slot =
      s.withWalk (s.walk.map fun w => w.hearsTurnEnds (which.map (·.index))) := by
  have hindexes : ∀ i, i ∈ ((s.entriesTaken which).endingAt slot).map (·.index) ↔ i ∈ which.map (·.index) := by
    intro i
    simp only [List.mem_map, State.mem_endingAt_entriesTaken hwhich hfree]
    exact ⟨fun ⟨_, ⟨e, hin, hx⟩, hi⟩ => ⟨e, hin, hi ▸ hx ▸ rfl⟩, fun ⟨e, hin, hi⟩ => ⟨e.taken, ⟨e, hin, rfl⟩, hi⟩⟩
  calc (s.entriesTaken which).slotReturns slot
    _ = ((s.entriesTaken which).entriesTake ((s.entriesTaken which).endingAt slot)
          fun e => e.returns (s.passed e)).withWalk
          (s.walk.map fun w => w.hearsTurnEnds (((s.entriesTaken which).endingAt slot).map (·.index))) := rfl
    _ = s.withWalk (s.walk.map fun w => w.hearsTurnEnds (which.map (·.index))) := by
      rw [State.entriesTaken_take_returns hwhich hfree]
      simp only [fun w : Walk => w.hearsTurnEnds_congr hindexes]

end Undeferred

end Sys2Proof.Machine

namespace Sys2Proof.AirLink
open Sys2Proof.Machine

/-- Settles O37: what is taken returns at once, and without deferred actions the roster stands as before. -/
theorem slotsInFaultReturnTheirEntries : Obligations.SlotsInFaultReturnTheirEntries := by
  intro s k hnot hfault hone hk chosen begun taken
  have hchosen : s.takenAt k = chosen := s.roster.selected_eq k.val s.time.cycleNumber
  have hexec : exec .slotStart s = .next (if chosen = [] then begun else taken.slotReturns k.val) := by
    rw [exec_slotStart (Timebase.nextSlot_of hk), if_neg hnot, State.startSlot_of_fault hone k hfault, hchosen]
    rfl
  refine ⟨fun hnone => by rw [hexec, if_pos hnone], fun hsome => by rw [hexec, if_neg hsome], fun hfree => ?_⟩
  have hreturns : taken.slotReturns k.val =
      begun.withWalk (s.walk.map fun w => w.hearsTurnEnds (chosen.map (·.index))) :=
    State.entriesTaken_slotReturns (s := begun) (fun e he => State.mem_takenAt (hchosen.symm ▸ he)) hfree
  rw [hexec]
  split
  next hnone => simp [hnone, Walk.hearsTurnEnds_nil, begun]
  next => rw [hreturns]; rfl

/-- Settles O38: each sense goes on, sends the roll call of the turns that can be sent, or loses the slot. -/
theorem slotSensesCallOrLose : Obligations.SlotSensesCallOrLose := by
  intro s n k hstage hslot hopen hactive sendable c body check dropped
  have hexec := exec_slotSense hstage hslot hopen hactive
  refine ⟨fun hn => ?_, fun hsome => ?_, fun hnone => ?_, fun hn hone => ?_⟩
  · rw [hexec, if_pos rfl, if_pos (by omega)]
    rfl
  · have hframe : rollCallFrame s.cellCode k.val (s.air.turns.map AirTurn.dropAwaited) =
        body ++ [check.extractLsb' 0 8, check.extractLsb' 8 8] := by
      rw [rollCallFrame, filter_named_dropAwaited]
      rfl
    rw [hexec, if_neg (by simp), State.sendRollCall_of_some k.val hsome, hframe]
    rfl
  · rw [hexec, if_neg (by simp), State.sendRollCall_of_none k.val hnone]
    rfl
  · rw [hexec, if_pos rfl, if_neg (by omega), State.loseSlot_eq hone]
    rfl

/-- Settles O40: the slot is over with its entries returned, and HALT ends there. -/
theorem slotEndReturnsEntries : Obligations.SlotEndReturnsEntries := by
  intro s k hslot hopen hone r t
  rw [exec_slotEnd hslot hopen, State.endSlot_eq hone]
  exact ⟨fun hnot => by rw [if_neg hnot]; rfl, fun hhalt => by rw [if_pos hhalt]; rfl⟩

end Sys2Proof.AirLink
end

section
/-! Frames on the air: the check as a remainder, and the replies the part reads (R129, R138). -/

namespace Sys2Proof.Machine

/-! ## The frame check (R129; log 45) -/

theorem getLsbD_crcBit (r : BitVec 16) (b : Bool) (k : Nat) :
    (crcBit r b).getLsbD k = (r.getLsbD (k + 1) ^^ ((r.getLsbD 0 ^^ b) && (0x8408#16).getLsbD k)) := by
  unfold crcBit
  cases r.getLsbD 0 ^^ b <;> simp [Nat.add_comm 1 k]

theorem getLsbD_checkStep (r : BitVec 16) (b : Bool) {k : Nat} (hk : k < 16) :
    (checkStep r b).getLsbD k =
      ((decide (0 < k) && r.getLsbD (k - 1)) ^^ ((r.getLsbD 15 ^^ b) && (0x1021#16).getLsbD k)) := by
  have hmoved : (r <<< 1).getLsbD k = (decide (0 < k) && r.getLsbD (k - 1)) := by
    simp only [BitVec.getLsbD_shiftLeft, hk, decide_true, Bool.true_and, Nat.lt_one_iff, Nat.pos_iff_ne_zero, decide_not]
  rw [checkStep, BitVec.getLsbD_xor, hmoved]
  split
  next hsame => rw [hsame, Bool.xor_self, Bool.false_and, BitVec.getLsbD_zero]
  next hdiffer => rw [Bool.xor_iff_ne.mpr hdiffer, Bool.true_and]

/-- A register holds the remainder with the coefficient of x^15 in bit 0 (log 45). -/
def mirrors (r q : BitVec 16) : Prop := ∀ k, k < 16 → r.getLsbD k = q.getLsbD (15 - k)

theorem generator_mirrors : mirrors 0x8408#16 0x1021#16 := by unfold mirrors; decide

theorem crcBit_mirrors {r q : BitVec 16} (h : mirrors r q) (b : Bool) : mirrors (crcBit r b) (checkStep q b) := by
  intro k hk
  have hmoved : r.getLsbD (k + 1) = (decide (0 < 15 - k) && q.getLsbD (15 - k - 1)) := by
    by_cases hlast : k = 15
    · simp [hlast]
    · simp [h (k + 1) (by omega), show 15 - (k + 1) = 15 - k - 1 by omega, show k < 15 by omega]
  rw [getLsbD_crcBit, getLsbD_checkStep _ _ (by omega), hmoved, h 0 (by omega), generator_mirrors k hk]

theorem foldl_crcBit_mirrors (bits : List Bool) {r q : BitVec 16} (h : mirrors r q) :
    mirrors (bits.foldl crcBit r) (bits.foldl checkStep q) := by
  induction bits generalizing r q with
  | nil => exact h
  | cons b rest ih => exact ih (crcBit_mirrors h b)

/-- The check takes the bits of the bytes in their order, each byte lowest bit first. -/
theorem frameCheck_eq_foldl (bytes : List Byte) :
    frameCheck bytes = (bytes.flatMap fun x => (List.range 8).map fun k => x.getLsbD k).foldl crcBit 0xFFFF#16 := by
  simp only [frameCheck, List.foldl_flatMap, List.foldl_map]
  rfl

theorem frameCheck_mirrors (bytes : List Byte) : mirrors (frameCheck bytes) (checkRemainder bytes) := by
  rw [frameCheck_eq_foldl]
  exact foldl_crcBit_mirrors _ (by unfold mirrors; decide)

/-! ## Bytes of a value (R186) -/

theorem bytesOf16_append (a b : Byte) : bytesOf16 (b ++ a : BitVec 16) = [a, b] := by
  have hlow : (b ++ a : BitVec 16).extractLsb' 0 8 = a := BitVec.extractLsb'_append_eq_right
  have hhigh : (b ++ a : BitVec 16).extractLsb' 8 8 = b := BitVec.extractLsb'_append_eq_left
  rw [bytesOf16, hlow, hhigh]

theorem joined16 (v : BitVec 16) : (v.extractLsb' 8 8 ++ v.extractLsb' 0 8 : BitVec 16) = v :=
  (BitVec.extractLsb'_append_extractLsb'_eq_extractLsb' rfl).trans BitVec.extractLsb'_eq_self

theorem joined24 (v : BitVec 24) : (v.extractLsb' 16 8 ++ v.extractLsb' 8 8 ++ v.extractLsb' 0 8 : BitVec 24) = v := by
  have hhigh : (v.extractLsb' 16 8 ++ v.extractLsb' 8 8 : BitVec 16) = v.extractLsb' 8 16 :=
    BitVec.extractLsb'_append_extractLsb'_eq_extractLsb' rfl
  rw [hhigh]
  exact (BitVec.extractLsb'_append_extractLsb'_eq_extractLsb' rfl).trans BitVec.extractLsb'_eq_self

theorem bytesOf16_eq_iff (v : BitVec 16) (a b : Byte) : [a, b] = bytesOf16 v ↔ (b ++ a : BitVec 16) = v := by
  constructor
  · intro h
    obtain ⟨rfl, rfl⟩ : a = v.extractLsb' 0 8 ∧ b = v.extractLsb' 8 8 := by simpa [bytesOf16] using h
    exact joined16 v
  · rintro rfl
    rw [bytesOf16_append]

/-! ## The five checks of a reply (R138; log 9) -/

theorem ReplyResult.ofCode_eq_some_iff (b : Byte) (x : ReplyResult) : ReplyResult.ofCode b.toNat = some x ↔ b = x.code := by
  rw [← BitVec.toNat_inj]
  unfold ReplyResult.ofCode
  split <;> cases x <;> simp_all [ReplyResult.code]

theorem take_two_eq {l : List Byte} (h : 2 ≤ l.length) : l.take 2 = [l.getD 0 0#8, l.getD 1 0#8] := by
  match l, h with
  | _ :: _ :: _, _ => rfl

theorem drop_eq_last_two {l : List Byte} {n : Nat} (h : l.length = n + 2) :
    l.drop n = [l.getD n 0#8, l.getD (n + 1) 0#8] := by
  rw [List.drop_eq_getElem_cons (by omega), List.drop_eq_getElem_cons (by omega), List.drop_of_length_le (by omega),
    List.getD_eq_getElem _ _ (by omega), List.getD_eq_getElem _ _ (by omega)]

theorem checkVerifies_iff {frame : List Byte} (h : frame.length = 15) :
    checkVerifies frame = true ↔
      frame.getD 13 0#8 = (frameCheck (frame.take 13)).extractLsb' 0 8
        ∧ frame.getD 14 0#8 = (frameCheck (frame.take 13)).extractLsb' 8 8 := by
  simp [checkVerifies, h, drop_eq_last_two h, bytesOf16]

/-- A frame has the contents of a reply exactly when it has their length and passes the first three checks. -/
theorem replyContents_eq_some_iff (cell : BitVec 16) (frame c : List Byte) :
    replyContents cell frame = some c ↔
      (frame.drop 3).take 10 = c ∧ frame.length = 15
        ∧ frame.getD 13 0#8 = (frameCheck (frame.take 13)).extractLsb' 0 8
        ∧ frame.getD 14 0#8 = (frameCheck (frame.take 13)).extractLsb' 8 8
        ∧ (frame.getD 1 0#8 ++ frame.getD 0 0#8 : BitVec 16) = cell ∧ frame.getD 2 0#8 = 6#8 := by
  simp only [replyContents, Option.ite_none_right_eq_some, Bool.and_eq_true, beq_iff_eq, Option.some.injEq]
  rw [and_comm]
  refine and_congr_right fun _ => ?_
  constructor
  · rintro ⟨⟨⟨hcheck, hlength⟩, hcell⟩, hkind⟩
    obtain ⟨hlow, hhigh⟩ := (checkVerifies_iff hlength).mp hcheck
    exact ⟨hlength, hlow, hhigh, (bytesOf16_eq_iff _ _ _).mp ((take_two_eq (by omega)).symm.trans hcell), hkind⟩
  · rintro ⟨hlength, hlow, hhigh, hcell, hkind⟩
    exact ⟨⟨⟨(checkVerifies_iff hlength).mpr ⟨hlow, hhigh⟩, hlength⟩,
      (take_two_eq (by omega)).trans ((bytesOf16_eq_iff _ _ _).mpr hcell)⟩, hkind⟩

theorem readReply_eq_some_iff (cell : BitVec 16) (ident : BitVec 24) (frame : List Byte) (r : Reply) :
    readReply cell ident frame = some r ↔
      ∃ c, replyContents cell frame = some c
        ∧ valueOf24 (c.getD 0 0#8) (c.getD 1 0#8) (c.getD 2 0#8) = ident ∧ c.getD 3 0#8 = r.result.code
        ∧ r.displayed = valueOf16 (c.getD 4 0#8) (c.getD 5 0#8)
        ∧ r.staged = (if (c.getD 8 0#8).getLsbD 0 then some (valueOf16 (c.getD 6 0#8) (c.getD 7 0#8)) else none)
        ∧ r.battery = (c.getD 8 0#8).extractLsb' 4 4 ∧ r.rushing = (c.getD 8 0#8).getLsbD 1
        ∧ r.quality = c.getD 9 0#8 := by
  unfold readReply
  cases replyContents cell frame with
  | none => simp
  | some c =>
    obtain ⟨result, displayed, staged, battery, rushing, quality⟩ := r
    simp only [Option.some.injEq, exists_eq_left', ← ReplyResult.ofCode_eq_some_iff,
      Option.ite_none_right_eq_some]
    refine and_congr_right fun _ => ?_
    cases ReplyResult.ofCode (c.getD 3 0#8).toNat with
    | none => simp
    | some x => simp only [Option.some.injEq, Reply.mk.injEq, eq_comm]

/-- The contents of a reply are the bytes of its frame from the fourth to the thirteenth. -/
theorem getD_contents (frame : List Byte) {k : Nat} (hk : k < 10) :
    ((frame.drop 3).take 10).getD k 0#8 = frame.getD (3 + k) 0#8 := by
  simp [List.getD_eq_getElem?_getD, List.getElem?_drop, hk]

/-! ## The flags of a reply (R129) -/

theorem Reply.flags_staged (r : Reply) : r.flags.getLsbD 0 = r.staged.isSome := by
  rw [Reply.flags, BitVec.getLsbD_append]
  simp

theorem Reply.flags_rushing (r : Reply) : r.flags.getLsbD 1 = r.rushing := by
  rw [Reply.flags, BitVec.getLsbD_append, BitVec.getLsbD_append]
  simp

theorem Reply.flags_battery (r : Reply) : r.flags.extractLsb' 4 4 = r.battery := by
  unfold Reply.flags
  rw [BitVec.extractLsb'_append_eq_of_le, BitVec.extractLsb'_append_eq_of_le, BitVec.extractLsb'_append_eq_of_le] <;> simp

theorem Reply.staged_of_flags (r : Reply) :
    (if r.flags.getLsbD 0 then some (valueOf16 ((r.staged.getD 0#16).extractLsb' 0 8) ((r.staged.getD 0#16).extractLsb' 8 8))
      else none) = r.staged := by
  rw [r.flags_staged, valueOf16, joined16]
  cases r.staged <;> rfl

end Sys2Proof.Machine

namespace Sys2Proof.AirLink
open Sys2Proof.Machine

/-- Settles O32: the two registers mirror each other bit by bit, and the checks of a reply are those of its bytes. -/
theorem receivedFramesPassFiveChecks : Obligations.ReceivedFramesPassFiveChecks := by
  refine ⟨frameCheck_mirrors, fun cell ident frame r => ?_⟩
  simp only [readReply_eq_some_iff, replyContents_eq_some_iff, and_assoc, exists_eq_left', getD_contents,
    Nat.reduceLT, Nat.reduceAdd, valueOf24, valueOf16]
  rfl

/-- Settles O33: the frame of a reply passes the checks of O32, and its fields are where those read them. -/
theorem replyFramesReadBack : Obligations.ReplyFramesReadBack := by
  intro cell ident r
  refine (receivedFramesPassFiveChecks.2 cell ident (replyFrame cell ident r) r).mpr
    ⟨rfl, rfl, rfl, joined16 cell, rfl, joined24 ident, rfl, (joined16 r.displayed).symm, ?_, r.flags_battery.symm,
      r.flags_rushing.symm, rfl⟩
  exact r.staged_of_flags.symm

end Sys2Proof.AirLink
end

section
/-! What the transmitter sends and when: the beacon, the frames of the turns, and their ends (R130, R131, R134, R136, R142). -/

namespace Sys2Proof.Machine

/-! ## The beacon (R130, R131) -/

theorem zeroExtend_ofBool (b : Bool) : (BitVec.ofBool b).zeroExtend 8 = if b then 1#8 else 0#8 := by cases b <;> rfl

theorem zeroExtend_nibble (x : BitVec 4) : x.zeroExtend 8 = (0#4 ++ x : BitVec 8) :=
  BitVec.setWidth_eq_append (by omega)

theorem State.senseBeacon_eq {s : State} {n : Nat} (hstage : s.air.stage = .beaconSense n)
    (hactive : s.air.radio = .active) (busy : Bool) :
    s.senseBeacon busy =
      if busy then s.setStage (if n + 1 < 3 then .beaconSense (n + 1) else .idle)
      else (s.setStage .idle).keyFrame s.beaconFrame := by
  simp [State.senseBeacon, hstage, State.radioActive, hactive]

theorem State.beaconFrame_eq (s : State) :
    s.beaconFrame = frameOf s.cellCode 1#8
      (bytesOf16 s.time.cycleNumber ++ bytesOf32 s.time.cycleTime
        ++ [if s.time.cycleRush.isOpen then 1#8 else 0#8,
          if s.time.cycleRush.isOpen then (0#4 ++ s.batteryFloor : BitVec 8) else 0#8]) := by
  rw [State.beaconFrame, zeroExtend_ofBool, zeroExtend_nibble]
  rfl

/-! ## The frames of the turns (R104, R134, R136) -/

section Turn
variable {s : State} {x : AirTurn} (hturn : s.air.turn x.number = some x)
include hturn

theorem State.startTurn_of_ready {last : Nat} {frame : List Byte} (hstage : s.air.stage = .serving last false)
    (hlater : last < x.number) (hframe : x.frameBytes s.cellCode = some frame) :
    s.startTurn x.number = s.sendTurn x frame := by
  simp [State.startTurn, hstage, Nat.not_le.mpr hlater, hturn, hframe]

theorem State.openWindow_of_unreported (hstage : s.air.stage = .serving x.number false) (hopen : x.reported = false) :
    s.openWindow = s.setStage (.serving x.number true) := by
  have hwindow : s.air.openTurn false = some x := by simp [AirLink.openTurn, hstage, hturn, hopen]
  simp [State.openWindow, hwindow]

end Turn

/-- A frame that carries its turn's identifier and version, and in an UPDATE the activation time and the content (R134). -/
theorem AirTurn.frameBytes_of_ready {x : AirTurn} {content : List Byte} (h : x.content = .ready content)
    (cell : BitVec 16) :
    x.frameBytes cell =
      some (frameOf cell x.frame.kindByte
        (bytesOf24 x.ident ++ bytesOf16 x.version
          ++ if x.frame = .update then bytesOf32 x.activation ++ content else [])) := by
  cases hframe : x.frame <;> simp [AirTurn.frameBytes, h, hframe, List.append_assoc]

theorem State.sendTurn_eq (s : State) (x : AirTurn) (frame : List Byte) :
    s.sendTurn x frame =
      { s with
        air := { s.air with
          stage := .serving x.number false
          onAir := some frame
          keyedMs := if s.air.onAir.isSome then s.air.keyedMs else 0 }
        roster := { s.roster with
          entries := s.roster.entries.map fun e =>
            if e.index = x.index ∧ x.frame = .update then { e with offered := true } else e } } := by
  by_cases hupdate : x.frame = .update
  · simp only [State.sendTurn, hupdate, if_true, and_true]
    rfl
  · simp only [State.sendTurn, hupdate, if_false, and_false, List.map_id']
    rfl

/-! ## The content of an UPDATE (R85, R103, R134) -/

/-- An undefined basis code reads as that of NONE (R3). -/
theorem UnitBasis.code_ofCode (n : Nat) : (UnitBasis.ofCode n).code = if n ≤ 5 then n else 0 := by
  match n with
  | 0 | 1 | 2 | 3 | 4 | 5 => rfl
  | n + 6 => rw [if_neg (by omega)]; rfl

theorem UnitBasis.byte_ofCode (b : Byte) : (UnitBasis.ofCode b.toNat).byte = if b.toNat ≤ 5 then b else 0#8 := by
  rw [UnitBasis.byte, UnitBasis.code_ofCode, apply_ite (BitVec.ofNat 8), BitVec.ofNat_toNat, BitVec.setWidth_eq]

theorem recordIsPanel_iff (ws : List Word) : recordIsPanel ws = true ↔ (ws.getD 0 0#32).extractLsb' 24 8 = 1#8 := by
  simp [recordIsPanel, bitsOf, recordWord, ← BitVec.toNat_inj]

theorem recordBasis_byte (ws : List Word) :
    (recordBasis ws).byte =
      if ((ws.getD 1 0#32).extractLsb' 16 8).toNat ≤ 5 then (ws.getD 1 0#32).extractLsb' 16 8 else 0#8 :=
  UnitBasis.byte_ofCode _

theorem updateContent_eq (ws : List Word) :
    updateContent ws =
      if (ws.getD 0 0#32).extractLsb' 24 8 = 1#8 then
        1#8 :: (bytesOf24 (price24 (imageRead ws 8 true).primary) ++ bytesOf24 (price24 (imageRead ws 8 true).partner)
          ++ bytesOf24 (price24 (imageRead ws 8 true).unit) ++ [(recordBasis ws).byte, (imageRead ws 8 true).badges])
      else
        0#8 :: (packDigits (digitString (imageRead ws 8 false).primary)
          ++ packDigits (unitDigitString (imageRead ws 8 false).unit) ++ [(recordBasis ws).byte]) := by
  simp only [← recordIsPanel_iff]
  cases hpanel : recordIsPanel ws <;> simp [updateContent, hpanel]

theorem State.deliver_updateContent {s : State} {q : Request} {number : Nat} (h : q.purpose = .updateContent number)
    (ws : List Word) (qs : List Nat) (ident : BitVec 24) :
    s.deliver q (.served ws qs) ident = s.turnRead number (.ready (updateContent ws))
      ∧ s.deliver q .fault ident = s.turnRead number .dropped := by simp [State.deliver, h]

end Sys2Proof.Machine

namespace Sys2Proof.AirLink
open Sys2Proof.Machine

/-- Settles O35: a clear sense keys the beacon, and a busy one moves the count of senses. -/
theorem beaconSensesSendOrSkip : Obligations.BeaconSensesSendOrSkip := by
  intro s n hstage hactive c y z rush body check frame
  have hexec : ∀ busy, exec (.beaconSense busy) s = .next (s.senseBeacon busy) := fun _ => rfl
  simp only [hexec, State.senseBeacon_eq hstage hactive, if_true, Bool.false_eq_true, if_false]
  refine ⟨?_, fun hn => ?_, fun hn => ?_⟩
  · rw [State.beaconFrame_eq]
    rfl
  · rw [if_pos (by omega)]
    rfl
  · rw [if_neg (by omega)]
    rfl

/-- Settles O39: the frame of a turn, its reply window and the end of its keying, and the content that a record read gives. -/
theorem turnsSendTheirFrames : Obligations.TurnsSendTheirFrames := by
  refine ⟨?_, ?_, fun s => ⟨rfl, rfl⟩⟩
  · intro s x number content hturn hnumber c body check
    refine ⟨fun last hstage hlater hcontent => ?_, fun hstage hopen =>
      congrArg Host.Outcome.next (State.openWindow_of_unreported hturn hstage hopen)⟩
    have hexec : exec (.turnStart number) s = .next (s.startTurn x.number) := by rw [← hnumber]; rfl
    have hbody : frameOf s.cellCode x.frame.kindByte (bytesOf24 x.ident ++ bytesOf16 x.version
        ++ if x.frame = .update then bytesOf32 x.activation ++ content else []) =
        body ++ [check.extractLsb' 0 8, check.extractLsb' 8 8] := rfl
    rw [hexec, State.startTurn_of_ready hturn hstage hlater (AirTurn.frameBytes_of_ready hcontent _), State.sendTurn_eq,
      hbody]
  · intro s q number ws qs ident hpurpose price bytes packed basis named content becomes
    have hcontent : updateContent ws = content := by
      rw [updateContent_eq, recordBasis_byte]
      rfl
    obtain ⟨hserved, hfault⟩ := State.deliver_updateContent (s := s) hpurpose ws qs ident
    rw [hserved, hfault, hcontent]
    exact ⟨rfl, rfl⟩

end Sys2Proof.AirLink
end

section
/-! RADIO_RESTART and the restart mark: the controller keeps its state through the arbiter's choices, so that RUN leaves it as its
cycle start makes it (R40, R142, R143, R175). -/

namespace Sys2Proof.Machine

/-! ## Acts of the Roster and the Ticket Unit that leave the Air Link Controller alone -/

theorem State.air_ite (c : Prop) [Decidable c] (s t : State) : (if c then s else t).air = if c then s.air else t.air :=
  apply_ite State.air c s t

theorem foldl_air {α : Type} {f : State → α → State} (hf : ∀ s a, (f s a).air = s.air) (l : List α) (s : State) :
    (l.foldl f s).air = s.air := by
  induction l generalizing s with
  | nil => rfl
  | cons a rest ih => rw [List.foldl_cons, ih, hf]

@[simp] theorem State.beginRemoval_air (s : State) (i : Nat) (c : Closing) : (s.beginRemoval i c).air = s.air := rfl

@[simp] theorem State.expireEntry_air (s : State) (i : Nat) : (s.expireEntry i).air = s.air := by
  unfold State.expireEntry; split
  · rfl
  next e _ => cases e.state <;> simp [State.air_ite]

@[simp] theorem State.cancelEntry_air (s : State) (i : Nat) : (s.cancelEntry i).air = s.air := by
  unfold State.cancelEntry; split
  · rfl
  next e _ => cases e.state <;> simp [State.air_ite]

@[simp] theorem State.expireEntries_air (s : State) (n : Nat) : (s.expireEntries n).air = s.air :=
  foldl_air State.expireEntry_air _ s

@[simp] theorem State.cancelEntries_air (s : State) (n : Nat) : (s.cancelEntries n).air = s.air := by
  simp [State.cancelEntries, foldl_air State.cancelEntry_air]

@[simp] theorem State.finishCancel_air (s : State) : s.finishCancel.air = s.air := by
  unfold State.finishCancel; split <;> simp [State.air_ite]

@[simp] theorem State.changeTicket_air (s : State) (n : Nat) (f : Ticket → Ticket) : (s.changeTicket n f).air = s.air := by
  unfold State.changeTicket; split <;> rfl

@[simp] theorem State.putTallies_air (s : State) (n : Nat) (t : Ticket) : (s.putTallies n t).air = s.air := by
  unfold State.putTallies
  exact foldl_air (fun s _ => s.putTicketWord_air n _ _) _ s

@[simp] theorem State.settle_air (s : State) (n : Nat) : (s.settle n).air = s.air := by
  unfold State.settle; split
  · rfl
  next t _ =>
    rw [State.dropTicket_air, State.putSettlement, State.latch_air, State.putTicketWord_air, State.putTicketWord_air,
      State.putTicketWord_air, State.putTicketWord_air, State.putTallies_air]

/-! ## The end of a walk and the arbiter (R40, R45) -/

@[simp] theorem State.endTicketWalk_air (s : State) (n : Nat) (o : TicketOutcome) (r : Reason) (stop : Option Nat) :
    (s.endTicketWalk n o r stop).air = s.air := by
  unfold State.endTicketWalk; split
  · rfl
  next t _ =>
    rw [State.air_ite, State.finishCancel_air, State.finishCancel_air, State.settle_air, State.air_ite,
      State.expireEntries_air, State.air_ite, State.cancelEntries_air, State.putTicketWord_air, State.putTallies_air,
      State.setTicket_air, ite_self, ite_self, ite_self]

@[simp] theorem State.takeWalk_air (s : State) (n : Nat) (w : Walk) : (s.takeWalk n w).air = s.air := by
  simp [State.takeWalk]

@[simp] theorem State.startWalk_air (s : State) (n : Nat) (t : Ticket) : (s.startWalk n t).air = s.air := by
  simp [State.startWalk, State.air_ite]

@[simp] theorem State.resumeWalk_air (s : State) (n : Nat) : (s.resumeWalk n).air = s.air := by
  simp [State.resumeWalk, State.air_ite]

theorem State.arbitrateUpTo_air (k : Nat) (s : State) : (State.arbitrateUpTo k s).air = s.air := by
  induction k generalizing s with
  | zero => rfl
  | succ k ih =>
    unfold State.arbitrateUpTo; split
    · rfl
    · split <;> simp [ih, State.air_ite]

@[simp] theorem State.arbitrate_air (s : State) : s.arbitrate.air = s.air := s.arbitrateUpTo_air 33

/-! ## RADIO_RESTART and RUN as commands (R143, R174, R175) -/

theorem Command.ofCode_code (c : Command) : Command.ofCode c.code = some c := by cases c <;> rfl

/-- A command without an argument that no row of R174 refuses. -/
theorem State.command_of_taken {s : State} {c : Command} (hactive : s.host.active = none)
    (htaken : c.takenIn s.host.runState = true) (hset : c = .run → s.time.timeSet = true) :
    s.command c.code 0 = (s.nameCommand c.code).take c 0 := by
  have hclock : ¬ (c = .run ∧ s.time.timeSet = false) := fun ⟨hc, hunset⟩ => by simp [hset hc] at hunset
  have hargument : ¬ (c = .cancel ∧ 31 < 0) := by simp
  simp only [State.command, State.commandBlocks, hactive, Command.ofCode_code, State.judgeCommand, htaken,
    if_neg hclock, if_neg hargument]
  simp

theorem exec_radioRestart {s : State} (hactive : s.host.active = none)
    (hrun : s.host.runState = .halted ∨ s.host.runState = .running) :
    exec .radioRestart s = .next (s.nameCommand 7#4).restartRadio := by
  have htaken : Command.radioRestart.takenIn s.host.runState = true := by
    rcases hrun with h | h <;> simp [Command.takenIn, h]
  have hexec : exec .radioRestart s = .next (s.command Command.radioRestart.code 0) := rfl
  rw [hexec, State.command_of_taken hactive htaken nofun]
  rfl

theorem exec_run {s : State} (hactive : s.host.active = none) (hrun : s.host.runState = .halted)
    (hset : s.time.timeSet = true) : exec .run s = .next (s.nameCommand 1#4).takeRun := by
  have hexec : exec .run s = .next (s.command Command.run.code 0) := rfl
  have htaken : Command.run.takenIn s.host.runState = true := by simp [Command.takenIn, hrun]
  rw [hexec, State.command_of_taken hactive htaken fun _ => hset]
  rfl

theorem State.restartRadio_eq (s : State) :
    s.restartRadio =
      if s.air.radio = .fault then
        { s with host := { s.host with lastResult := .done }, air := { s.air with restartMark := true } }
      else { s with host := { s.host with lastResult := .wrongState } } := rfl

theorem State.startCycle_air (s : State) : s.startCycle.air = s.air.atCycleStart := rfl

/-- RUN turns an OFF radio on, and its cycle start does the rest (R128, R143). -/
theorem State.takeRun_air {s : State} (hon : s.air.radio ≠ .off) : s.takeRun.air = s.air.atCycleStart := by
  simp [State.takeRun, State.startSweep, State.startCycle_air, hon]

end Sys2Proof.Machine

namespace Sys2Proof.AirLink
open Sys2Proof.Machine

/-- Settles O19: the command sets the mark in FAULT alone, and both cycle starts make a marked FAULT ACTIVE. -/
theorem radioRestartMarksAFault : Obligations.RadioRestartMarksAFault := by
  intro s
  refine ⟨fun hactive hrun => ?_, fun hfault hmark => ?_, _, rfl, rfl, rfl⟩
  · rw [exec_radioRestart hactive hrun, State.restartRadio_eq]
    exact ⟨fun hfault => by rw [if_pos (by exact hfault)]; rfl, fun hnot => by rw [if_neg (by exact hnot)]; rfl⟩
  · have hback := AirLink.atCycleStart_of_marked hfault hmark
    refine ⟨fun hrun hnot hslot hover => ⟨_, exec_cycleStart hrun hslot hover, ?_⟩,
      fun hactive hrun hset => ⟨_, exec_run hactive hrun hset, ?_⟩⟩
    · rw [if_neg hnot, State.startCycle_air, hback]
    · exact (State.takeRun_air (s := s.nameCommand 1#4) (by simp [State.nameCommand, hfault])).trans hback

end Sys2Proof.AirLink
end

section
/-! Host accesses of RAM and the snoop: which accesses the Host Link holds, and what a snoop that waits for nothing does by
where it finds its record (R160 to R163, R167, R170, R171; logs 13, 31). -/

namespace Sys2Proof.Machine

/-! ## The window (R170) -/

theorem decodeWindow_coherent {k : Nat} (hk : k < 1048576) : decodeWindow (BitVec.ofNat 24 (4 * k)) = .coherent (4 * k) := by
  have haddr : (BitVec.ofNat 24 (4 * k)).toNat = 4 * k := by
    rw [BitVec.toNat_ofNat]
    omega
  simp only [decodeWindow, haddr]
  rw [show 4 * (4 * k / 4) = 4 * k by omega, if_pos (by omega)]

theorem decodeWindow_direct {k : Nat} (hk : k < 1048576) :
    decodeWindow (BitVec.ofNat 24 (0x800000 + 4 * k)) = .direct (4 * k) := by
  have haddr : (BitVec.ofNat 24 (0x800000 + 4 * k)).toNat = 0x800000 + 4 * k := by
    rw [BitVec.toNat_ofNat]
    omega
  simp only [decodeWindow, haddr]
  rw [show 4 * ((0x800000 + 4 * k) / 4) = 0x800000 + 4 * k by omega, if_neg (by omega), if_neg (by omega),
    if_pos (by omega), Nat.add_sub_cancel_left]

/-! ## Accesses, held and answered (R163, R167) -/

theorem State.access_of_held {s : State} {a : HostAccess} (h : s.holds a.addr = true) :
    s.access a = { s with host := { s.host with held := s.host.held ++ [a] } } := if_pos h

theorem State.access_of_free {s : State} {a : HostAccess} (h : s.holds a.addr = false) : s.access a = s.answerAccess a :=
  if_neg (by simp [h])

theorem State.holds_coherent (s : State) {k : Nat} (hk : k < 1048576) :
    s.holds (BitVec.ofNat 24 (4 * k)) = (!s.host.held.isEmpty || s.snoopWaits (4 * k)) := by
  simp only [State.holds, decodeWindow_coherent hk]

theorem State.holds_direct (s : State) {k : Nat} (hk : k < 1048576) :
    s.holds (BitVec.ofNat 24 (0x800000 + 4 * k)) = !s.host.held.isEmpty := by
  simp only [State.holds, decodeWindow_direct hk]

/-- A snoop waits for the fill of its record, and under DROP_ALL for any fill (log 31). -/
theorem State.snoopWaits_of_inDirectory {s : State} {off : Nat} {f : Fill} (hdir : s.inDirectory off = true)
    (hfill : s.cache.fill = some f) (hwaits : f.index = s.indexAt off ∨ s.host.active = some .dropAll) :
    s.snoopWaits off = true := by
  rcases hwaits with hindex | hdrop
  · simp [State.snoopWaits, hdir, hfill, hindex]
  · simp [State.snoopWaits, State.dropping, hdir, hdrop]

/-- A host write of RAM is an access, held or carried out; no register is written (R171). -/
theorem exec_hostWrite_of_ram {addr : BitVec 24} {off : Nat}
    (h : decodeWindow addr = .coherent off ∨ decodeWindow addr = .direct off) (s : State) (w : Word) :
    exec (.hostWrite addr w) s = .next (s.access (.write addr w)) := by
  have hexec : exec (.hostWrite addr w) s = .next (s.hostStore addr w) := rfl
  rcases h with h | h <;> simp only [hexec, State.hostStore, h]

/-! ## The snoop (R160 to R162) -/

/-- The host's read of a RAM word, field by field (R171). -/
theorem State.ramRead_eq (s : State) (off : Nat) :
    s.ramRead off =
      { s with host :=
          { s.host with
            readData := some (s.ram.word off)
            attention := if s.ram.faulty off then s.host.attention ||| 0x020#9 else s.host.attention } } := by
  unfold State.ramRead State.latchIf
  split <;> rfl

theorem exec_snoopRead_of_free {s : State} {k : Nat} (hk : k < 1048576) (hheld : s.host.held = [])
    (hdir : s.inDirectory (4 * k) = true) (hfree : s.snoopWaits (4 * k) = false) :
    exec (.snoopRead (BitVec.ofNat 24 (4 * k))) s = .next (s.snoopWordRead (4 * k)) := by
  have hholds : s.holds (BitVec.ofNat 24 (4 * k)) = false := by simp [s.holds_coherent hk, hheld, hfree]
  have hexec : exec (.snoopRead (BitVec.ofNat 24 (4 * k))) s = .next (s.access (.read (BitVec.ofNat 24 (4 * k)))) := rfl
  rw [hexec, State.access_of_free hholds]
  simp only [State.answerAccess, State.answerRead, decodeWindow_coherent hk, hdir, if_true]

theorem exec_snoopWrite_of_free {s : State} {k : Nat} (hk : k < 1048576) (w : Word) (hheld : s.host.held = [])
    (hdir : s.inDirectory (4 * k) = true) (hfree : s.snoopWaits (4 * k) = false) :
    exec (.snoopWrite (BitVec.ofNat 24 (4 * k)) w) s = .next (s.snoopWordWrite (4 * k) w) := by
  have hholds : s.holds (BitVec.ofNat 24 (4 * k)) = false := by simp [s.holds_coherent hk, hheld, hfree]
  have hexec : exec (.snoopWrite (BitVec.ofNat 24 (4 * k)) w) s = .next (s.access (.write (BitVec.ofNat 24 (4 * k)) w)) :=
    rfl
  rw [hexec, State.access_of_free hholds]
  simp only [State.answerAccess, State.answerWrite, decodeWindow_coherent hk, hdir, if_true]

end Sys2Proof.Machine

namespace Sys2Proof.DirectoryCache
open Sys2Proof.Machine

/-- Settles O8: the four places where the lookup can find a record. -/
theorem snoopReadFollowsItsTable : Obligations.SnoopReadFollowsItsTable := by
  intro s k hk hheld hdir hfree
  have hexec := exec_snoopRead_of_free hk hheld hdir hfree
  refine ⟨fun key l hdirty => ?_, fun l hbuffered => ?_, fun hram => ?_⟩
  · rw [hexec, State.snoopWordRead, State.indexAt, hdirty]
    rfl
  · rw [hexec, State.snoopWordRead, State.indexAt, hbuffered]
    rfl
  · rcases hram with ⟨key, hclean⟩ | hnone
    · rw [hexec, State.snoopWordRead, State.indexAt, hclean, ← s.ramRead_eq]
    · rw [hexec, State.snoopWordRead, State.indexAt, hnone, ← s.ramRead_eq]

/-- Settles O9: the four places where the lookup can find a record. -/
theorem snoopWriteFollowsItsTable : Obligations.SnoopWriteFollowsItsTable := by
  intro s k w hk hheld hdir hfree
  have hexec := exec_snoopWrite_of_free hk w hheld hdir hfree
  refine ⟨fun key hclean => ?_, fun key l hdirty => ?_, fun l hbuffered => ?_, fun hnone => ?_⟩
  · rw [hexec, State.snoopWordWrite, State.indexAt, hclean]
    rfl
  · rw [hexec, State.snoopWordWrite, State.indexAt, hdirty]
    rfl
  · rw [hexec, State.snoopWordWrite, State.indexAt, hbuffered]
    rfl
  · rw [hexec, State.snoopWordWrite, State.indexAt, hnone]
    rfl

/-- Settles O10: what the Host Link holds joins its accesses and does nothing else. -/
theorem snoopOfTheRecordBeingFilledIsHeld : Obligations.SnoopOfTheRecordBeingFilledIsHeld := by
  refine ⟨fun s k w f hk hdir hfill hwaits => ?_, fun s k w hk hheld => ?_⟩
  · have hholds : s.holds (BitVec.ofNat 24 (4 * k)) = true := by
      rw [s.holds_coherent hk, State.snoopWaits_of_inDirectory hdir hfill hwaits, Bool.or_true]
    exact ⟨congrArg _ (State.access_of_held (a := .read _) hholds),
      congrArg _ (State.access_of_held (a := .write _ w) hholds)⟩
  · have hqueue : (!s.host.held.isEmpty) = true := by simpa using hheld
    have hjoins : ∀ addr, s.holds addr = true →
        (∀ v, exec (.hostWrite addr v) s = .next (s.access (.write addr v))) →
        exec (.hostRead addr) s = .next { s with host := { s.host with held := s.host.held ++ [.read addr] } }
          ∧ exec (.hostWrite addr w) s = .next { s with host := { s.host with held := s.host.held ++ [.write addr w] } }
          ∧ exec (.snoopRead addr) s = .next { s with host := { s.host with held := s.host.held ++ [.read addr] } }
          ∧ exec (.snoopWrite addr w) s =
            .next { s with host := { s.host with held := s.host.held ++ [.write addr w] } } := by
      intro addr hholds hstore
      have hread := State.access_of_held (a := .read addr) hholds
      have hwrite := State.access_of_held (a := .write addr w) hholds
      exact ⟨congrArg _ hread, (hstore w).trans (congrArg _ hwrite), congrArg _ hread, congrArg _ hwrite⟩
    intro waits addr haddr
    rcases List.mem_pair.mp haddr with rfl | rfl
    · exact hjoins _ (by rw [s.holds_coherent hk, hqueue, Bool.true_or])
        (exec_hostWrite_of_ram (.inl (decodeWindow_coherent hk)) s)
    · exact hjoins _ ((s.holds_direct hk).trans hqueue) (exec_hostWrite_of_ram (.inr (decodeWindow_direct hk)) s)

end Sys2Proof.DirectoryCache
end

section
/-! The cache commands PUSH_ALL and DROP_ALL when they are taken (R165, R167, R175). -/

namespace Sys2Proof.Machine

/-! ## Pending lines (R165) -/

theorem Line.isDirty_iff (l : Line) : l.isDirty = true ↔ l.dirty ≠ 0#4 := by simp [Line.isDirty]

theorem Cache.anyPending_iff (c : Cache) :
    c.anyPending = true ↔ (∃ p ∈ c.lines, p.2.pushPending = true) ∨ ∃ l, c.pushBuffer = some l ∧ l.pushPending = true := by
  cases hbuffer : c.pushBuffer <;> simp [Cache.anyPending, hbuffer]

theorem Cache.anyPending_eq_false {c : Cache} (hlines : ∀ p ∈ c.lines, p.2.pushPending = false)
    (hbuffer : c.pushBuffer = none) : c.anyPending = false := by
  rw [← Bool.not_eq_true, Cache.anyPending_iff]
  rintro (⟨p, hp, hpending⟩ | ⟨l, hl, -⟩)
  · simp [hlines p hp] at hpending
  · simp [hbuffer] at hl

/-- The mark of PUSH_ALL reaches every DIRTY line and the buffered record. -/
theorem Cache.markPending_anyPending {c : Cache} (h : (∃ p ∈ c.lines, p.2.dirty ≠ 0#4) ∨ c.pushBuffer.isSome = true) :
    c.markPending.anyPending = true := by
  rw [Cache.anyPending_iff]
  rcases h with ⟨p, hp, hdirty⟩ | hbuffer
  · exact .inl ⟨_, List.mem_map_of_mem hp, by simp [(Line.isDirty_iff _).mpr hdirty]⟩
  · obtain ⟨l, hl⟩ := Option.isSome_iff_exists.mp hbuffer
    exact .inr ⟨{ l with pushPending := true }, by simp [Cache.markPending, hl], rfl⟩

/-- With nothing DIRTY and nothing buffered, PUSH_ALL marks nothing. -/
theorem Cache.markPending_of_clean {c : Cache} (hlines : ∀ p ∈ c.lines, p.2.dirty = 0#4) (hbuffer : c.pushBuffer = none) :
    c.markPending = { c with sweeper := some 0 } := by
  have hmap : (c.lines.map fun p => (p.1, if p.2.isDirty then { p.2 with pushPending := true } else p.2)) = c.lines := by
    refine (List.map_congr_left fun p hp => ?_).trans c.lines.map_id
    simp [Line.isDirty, hlines p hp]
  rw [Cache.markPending, hmap, hbuffer]
  rfl

theorem Cache.markPending_lines (c : Cache) :
    c.markPending.lines = c.lines.map fun p => (p.1, if p.2.dirty ≠ 0#4 then { p.2 with pushPending := true } else p.2) :=
  List.map_congr_left fun p _ => by simp only [Line.isDirty_iff]

/-! ## The commands taken (R175) -/

theorem exec_pushAll {s : State} (hactive : s.host.active = none)
    (hrun : s.host.runState = .halted ∨ s.host.runState = .running) :
    exec .pushAll s = .next (s.nameCommand 4#4).takePushAll := by
  have htaken : Command.pushAll.takenIn s.host.runState = true := by
    rcases hrun with h | h <;> simp [Command.takenIn, h]
  have hexec : exec .pushAll s = .next (s.command Command.pushAll.code 0) := rfl
  rw [hexec, State.command_of_taken hactive htaken nofun]
  rfl

theorem exec_dropAll {s : State} (hactive : s.host.active = none) (hrun : s.host.runState = .halted) :
    exec .dropAll s = .next (s.nameCommand 5#4).takeDropAll := by
  have htaken : Command.dropAll.takenIn s.host.runState = true := by simp [Command.takenIn, hrun]
  have hexec : exec .dropAll s = .next (s.command Command.dropAll.code 0) := rfl
  rw [hexec, State.command_of_taken hactive htaken nofun]
  rfl

theorem State.finishPush_of_pending {s : State} (h : s.cache.anyPending = true) : s.finishPush = s :=
  if_neg fun ⟨_, hnone⟩ => by simp [h] at hnone

theorem State.finishPush_of_done {s : State} (hactive : s.host.active = some .pushAll) (h : s.cache.anyPending = false) :
    s.finishPush = { s with host := s.host.commandDone, cache := { s.cache with sweeper := none } } := if_pos ⟨hactive, h⟩

theorem State.dropping_iff (s : State) : s.dropping = true ↔ s.host.active = some .dropAll := by simp [State.dropping]

theorem State.finishDrop_of_filling {s : State} (h : s.cache.fill.isSome = true) : s.finishDrop = s := by
  refine if_neg fun ⟨_, hnone⟩ => ?_
  rw [Option.isNone_iff_eq_none] at hnone
  simp [hnone] at h

theorem State.finishDrop_of_done {s : State} (hactive : s.host.active = some .dropAll) (h : s.cache.fill = none) :
    s.finishDrop = { s with host := s.host.commandDone, cache := { s.cache with lines := [] } } :=
  if_pos ⟨s.dropping_iff.mpr hactive, by rw [h]; rfl⟩

end Sys2Proof.Machine

namespace Sys2Proof.DirectoryCache
open Sys2Proof.Machine

/-- Settles O15: with a mark set PUSH_ALL stays in progress, and with none it is done as it is taken. -/
theorem pushAllMarksDirtyLines : Obligations.PushAllMarksDirtyLines := by
  intro s hactive hrun
  rw [exec_pushAll hactive hrun]
  refine ⟨fun hsome => ?_, fun hclean hbuffer => ?_⟩
  · rw [State.takePushAll, State.finishPush_of_pending (Cache.markPending_anyPending (c := s.cache) hsome),
      ← s.cache.markPending_lines]
    rfl
  · have hmark : s.cache.markPending = { s.cache with sweeper := some 0 } :=
      Cache.markPending_of_clean (fun p hp => (hclean p hp).1) hbuffer
    have hnone : s.cache.markPending.anyPending = false := by
      rw [hmark]
      exact Cache.anyPending_eq_false (fun p hp => (hclean p hp).2) hbuffer
    rw [State.takePushAll, State.finishPush_of_done rfl hnone]
    simp [State.onCache, State.beginCommand, State.onHost, State.nameCommand, HostLink.commandDone, hmark, hactive]

/-- Settles O16: DROP_ALL completes as it is taken, unless a fill is in progress. -/
theorem dropAllInvalidatesEveryWay : Obligations.DropAllInvalidatesEveryWay := by
  intro s hactive hrun
  rw [exec_dropAll hactive hrun]
  refine ⟨fun hnone => ?_, fun hfill => ?_⟩
  · rw [State.takeDropAll, State.finishDrop_of_done (by rfl) (by exact hnone)]
    simp [State.beginCommand, State.onHost, State.nameCommand, HostLink.commandDone, hactive]
  · rw [State.takeDropAll, State.finishDrop_of_filling (by exact hfill)]
    rfl

end Sys2Proof.DirectoryCache
end

section
/-! The words of a directory record: what a request writes of them, what the line and the RAM hold after it by the write
policy, and what a push writes (R9, R11, R12, R154, R157 to R159, R171, R188). -/

namespace Sys2Proof.Machine

/-! ## Writes of a record's words in RAM (R171, R188) -/

/-- The byte offsets, within a record, of words given by number. -/
def wordFields (changes : List (Nat × Word)) : List (Nat × Word) := changes.map fun p => (4 * p.1, p.2)

theorem wordFields_cons (p : Nat × Word) (changes : List (Nat × Word)) :
    wordFields (p :: changes) = (4 * p.1, p.2) :: wordFields changes := rfl

theorem State.putRecordWords_eq (s : State) (index : Nat) (changes : List (Nat × Word)) :
    s.putRecordWords index changes = { s with ram := s.ram.setFields (s.recordOffset index 0) (wordFields changes) } := by
  unfold State.putRecordWords
  induction changes generalizing s with
  | nil => simp [wordFields]
  | cons p changes ih =>
    rw [List.foldl_cons, ih, wordFields_cons, Ram.setFields_cons]
    rfl

/-- The same writes as they follow one another. -/
theorem State.putRecordWords_foldl (s : State) (index : Nat) (changes : List (Nat × Word)) :
    s.putRecordWords index changes =
      { s with ram := changes.foldl (fun m p => m.setWord (s.recordOffset index p.1) p.2) s.ram } := by
  rw [State.putRecordWords_eq, Ram.setFields, wordFields, List.foldl_map]
  rfl

theorem State.recordOffset_mod {s : State} (h : s.directoryBase % 4 = 0) (index : Nat) : s.recordOffset index 0 % 4 = 0 := by
  simp only [State.recordOffset]
  omega

theorem State.recordOffset_eq (s : State) (index j : Nat) : s.recordOffset index j = s.recordOffset index 0 + 4 * j := rfl

theorem State.wf_putRecordWords {s : State} (h : s.ram.wf = true) (index : Nat) (changes : List (Nat × Word)) :
    (s.putRecordWords index changes).ram.wf = true := by
  rw [State.putRecordWords_eq]
  exact Ram.wf_setFields h _ _

theorem mem_wordFields {changes : List (Nat × Word)} {j : Nat} {w : Word} (h : (j, w) ∈ changes) :
    (4 * j, w) ∈ wordFields changes := List.mem_map.mpr ⟨(j, w), h, rfl⟩

theorem State.word_putRecordWords_of_mem {s : State} (h : s.ram.wf = true) (hd : s.directoryBase % 4 = 0) {index j : Nat}
    {w : Word} {changes : List (Nat × Word)} (hnodup : (changes.map Prod.fst).Nodup) (hmem : (j, w) ∈ changes) :
    (s.putRecordWords index changes).ram.word (s.recordOffset index j) = w := by
  rw [State.putRecordWords_eq, State.recordOffset_eq]
  refine Ram.word_setFields_of_mem h (State.recordOffset_mod hd index) ?_ (mem_wordFields hmem)
  simpa [wordFields, Function.comp_def] using hnodup

theorem State.faulty_putRecordWords_of_mem (s : State) {index j : Nat} {w : Word} {changes : List (Nat × Word)}
    (hmem : (j, w) ∈ changes) : (s.putRecordWords index changes).ram.faulty (s.recordOffset index j) = false := by
  rw [State.putRecordWords_eq, State.recordOffset_eq]
  exact Ram.faulty_setFields_of_mem _ (mem_wordFields hmem)

/-- The bytes and parity marks of every other word stay. -/
theorem State.putRecordWords_of_ne {s : State} (h : s.ram.wf = true) {index x : Nat} {changes : List (Nat × Word)}
    (hx : ∀ p ∈ changes, x / 4 ≠ s.recordOffset index p.1 / 4) :
    (s.putRecordWords index changes).ram.byte x = s.ram.byte x
      ∧ (s.putRecordWords index changes).ram.faulty x = s.ram.faulty x := by
  have hne : ∀ q ∈ wordFields changes, x / 4 ≠ (s.recordOffset index 0 + q.1) / 4 := by
    intro q hq
    obtain ⟨p, hp, rfl⟩ := List.mem_map.mp hq
    exact hx p hp
  rw [State.putRecordWords_eq]
  exact ⟨Ram.byte_setFields_of_ne h hne, Ram.faulty_setFields_of_ne _ hne⟩

/-! ## Writes of a line's words (R157) -/

theorem writeWords_cons (ws : List Word) (p : Nat × Word) (changes : List (Nat × Word)) :
    writeWords ws (p :: changes) = writeWords (ws.set p.1 p.2) changes := rfl

theorem writeWords_of_not_mem {changes : List (Nat × Word)} {j : Nat} (h : j ∉ changes.map Prod.fst) (ws : List Word) :
    (writeWords ws changes)[j]? = ws[j]? := by
  induction changes generalizing ws with
  | nil => rfl
  | cons p changes ih =>
    rw [List.map_cons, List.mem_cons, not_or] at h
    rw [writeWords_cons, ih h.2, List.getElem?_set_ne (Ne.symm h.1)]

theorem writeWords_of_mem {changes : List (Nat × Word)} {j : Nat} {w : Word} {ws : List Word}
    (hnodup : (changes.map Prod.fst).Nodup) (hmem : (j, w) ∈ changes) (hj : j < ws.length) :
    (writeWords ws changes)[j]? = some w := by
  induction changes generalizing ws with
  | nil => simp at hmem
  | cons p changes ih =>
    rw [List.map_cons, List.nodup_cons] at hnodup
    rw [writeWords_cons]
    rcases List.mem_cons.mp hmem with rfl | hmem
    · rw [writeWords_of_not_mem hnodup.1]
      simp [hj]
    · exact ih hnodup.2 hmem (by simpa using hj)

theorem quarterMark_getLsbD {q : Nat} (hq : q < 4) (k : Nat) : (quarterMark k).getLsbD q = true ↔ k = q := by
  simp only [quarterMark, BitVec.getLsbD_shiftLeft, BitVec.getLsbD_one, hq, decide_true, Bool.true_and, Bool.and_eq_true,
    Bool.not_eq_true', decide_eq_false_iff_not, decide_eq_true_eq]
  omega

/-- A quarter is marked when a word of it is written (R158). -/
theorem marksOf_getLsbD (changes : List (Nat × Word)) {q : Nat} (hq : q < 4) :
    (marksOf changes).getLsbD q = true ↔ ∃ p ∈ changes, p.1 / 4 = q := by
  have hfold : ∀ m : BitVec 4, (changes.foldl (fun m p => m ||| quarterMark (p.1 / 4)) m).getLsbD q = true ↔
      m.getLsbD q = true ∨ ∃ p ∈ changes, p.1 / 4 = q := by
    induction changes with
    | nil => simp
    | cons p changes ih =>
      intro m
      rw [List.foldl_cons, ih, BitVec.getLsbD_or, Bool.or_eq_true, quarterMark_getLsbD hq, List.exists_mem_cons_iff,
        or_assoc]
  simpa [marksOf] using hfold 0#4

/-! ## What a request writes (R9, R11, R12, R149) -/

theorem CacheOp.changes_listed (op : CacheOp) (ws : List Word) : (op.changes ws).map Prod.fst = op.listed := by
  cases op <;> simp [CacheOp.changes, CacheOp.listed]

theorem CacheOp.changes_eq_nil_iff (op : CacheOp) (ws : List Word) : op.changes ws = [] ↔ op.listed = [] := by
  rw [← op.changes_listed ws, List.map_eq_nil_iff]

theorem CacheOp.mem_listed_iff {op : CacheOp} (ws : List Word) {j : Nat} :
    j ∈ op.listed ↔ ∃ x, (j, x) ∈ op.changes ws := by
  rw [← op.changes_listed ws, List.mem_map]
  exact ⟨fun ⟨p, hp, hj⟩ => ⟨p.2, hj ▸ hp⟩, fun ⟨x, hx⟩ => ⟨_, hx, rfl⟩⟩

theorem masked_getLsbD (old mask value : Word) {b : Nat} (hb : b < 32) :
    ((old &&& ~~~ mask) ||| (value &&& mask)).getLsbD b = if mask.getLsbD b then value.getLsbD b else old.getLsbD b := by
  simp only [BitVec.getLsbD_or, BitVec.getLsbD_and, BitVec.getLsbD_not, hb, decide_true, Bool.true_and]
  cases mask.getLsbD b <;> simp

theorem CacheOp.makes_of_mem {op : CacheOp} {ws : List Word} {j : Nat} {x : Word} (h : (j, x) ∈ op.changes ws) :
    op.makes ws j x := by
  cases op with
  | read qs => exact absurd h List.not_mem_nil
  | write words => exact h
  | update words =>
    obtain ⟨⟨k, mask, value⟩, hmem, heq⟩ := List.mem_map.mp h
    obtain ⟨rfl, rfl⟩ := Prod.mk.inj heq
    exact ⟨mask, value, hmem, fun _ hb => masked_getLsbD _ mask value hb⟩
  | countMiss =>
    obtain ⟨rfl, rfl⟩ := Prod.mk.inj (List.mem_singleton.mp h)
    obtain ⟨hlow, hquality, -, -⟩ := missWord_others (recordWord ws 12)
    exact ⟨rfl, missWord_toNat _, hlow, hquality⟩

/-! ## Service on a line (R157 to R159) -/

/-- The line after a request's words have been written in it: marked under BACK, and without a new mark under THROUGH. -/
def Line.serve (l : Line) (op : CacheOp) (back : Bool) : Line :=
  { l with
    words := writeWords l.words (op.changes l.words)
    dirty := if back then l.dirty ||| marksOf (op.changes l.words) else l.dirty }

theorem State.serveOnLine_of_read {op : CacheOp} (h : op.listed = []) (s : State) (key : Nat) (l : Line) :
    s.serveOnLine key l op = s := by
  simp [State.serveOnLine, (op.changes_eq_nil_iff l.words).mpr h]

theorem State.serveOnLine_of_back {s : State} {l : Line} {op : CacheOp} (h : op.listed ≠ [])
    (hback : s.isBack l.index = true) (key : Nat) :
    s.serveOnLine key l op =
      { s with cache := { s.cache with lines := assocPut key (l.serve op true) s.cache.lines } } := by
  have hsome : (op.changes l.words).isEmpty = false := by simpa [op.changes_eq_nil_iff l.words] using h
  simp [State.serveOnLine, hsome, hback, Line.serve, State.onCache, Cache.putLine]

theorem State.serveOnLine_of_through {s : State} {l : Line} {op : CacheOp} (h : op.listed ≠ [])
    (hthrough : s.isBack l.index = false) (key : Nat) :
    s.serveOnLine key l op =
      { s with
        ram := (s.putRecordWords l.index (op.changes l.words)).ram
        cache := { s.cache with lines := assocPut key (l.serve op false) s.cache.lines } } := by
  have hsome : (op.changes l.words).isEmpty = false := by simpa [op.changes_eq_nil_iff l.words] using h
  simp [State.serveOnLine, hsome, hthrough, Line.serve, State.onCache, Cache.putLine, State.putRecordWords_eq]

/-- Service on a line reaches RAM and lines alone. -/
theorem State.serveOnLine_frame (s : State) (key : Nat) (l : Line) (op : CacheOp) :
    s.serveOnLine key l op =
      { s with
        ram := (s.serveOnLine key l op).ram
        cache := { s.cache with lines := (s.serveOnLine key l op).cache.lines } } := by
  by_cases hread : op.listed = []
  · rw [State.serveOnLine_of_read hread]
  · by_cases hback : s.isBack l.index = true
    · rw [State.serveOnLine_of_back hread hback]
    · rw [State.serveOnLine_of_through hread (by simpa using hback)]

theorem State.wf_serveOnLine {s : State} (h : s.ram.wf = true) (key : Nat) (l : Line) (op : CacheOp) :
    (s.serveOnLine key l op).ram.wf = true := by
  by_cases hread : op.listed = []
  · rwa [State.serveOnLine_of_read hread]
  · by_cases hback : s.isBack l.index = true
    · rwa [State.serveOnLine_of_back hread hback]
    · rw [State.serveOnLine_of_through hread (by simpa using hback)]
      exact State.wf_putRecordWords h _ _

/-- A word that the request changes stands in the served line. -/
theorem Line.serve_words_of_mem {l : Line} {op : CacheOp} (hlen : l.words.length = 16) (hbound : ∀ j ∈ op.listed, j < 16)
    (hnodup : op.listed.Nodup) (back : Bool) {j : Nat} {x : Word} (hmem : (j, x) ∈ op.changes l.words) :
    (l.serve op back).words[j]? = some x := by
  rw [← op.changes_listed l.words] at hnodup
  refine writeWords_of_mem hnodup hmem ?_
  rw [hlen]
  exact hbound j ((CacheOp.mem_listed_iff l.words).mpr ⟨x, hmem⟩)

/-- The words of a served line: those listed as the request makes them, every other as it was. -/
theorem Line.serve_words {l : Line} {op : CacheOp} (hlen : l.words.length = 16) (hbound : ∀ j ∈ op.listed, j < 16)
    (hnodup : op.listed.Nodup) (back : Bool) :
    (∀ j ∈ op.listed, ∃ x, op.makes l.words j x ∧ (l.serve op back).words[j]? = some x)
      ∧ ∀ j, j ∉ op.listed → (l.serve op back).words[j]? = l.words[j]? := by
  refine ⟨fun j hj => ?_, fun j hj => writeWords_of_not_mem (by rwa [op.changes_listed l.words]) _⟩
  obtain ⟨x, hx⟩ := (CacheOp.mem_listed_iff l.words).mp hj
  exact ⟨x, CacheOp.makes_of_mem hx, Line.serve_words_of_mem hlen hbound hnodup back hx⟩

/-- Under THROUGH the RAM holds the words of the served line with fresh parity, and the rest of it as before (R157, R171). -/
theorem State.putRecordWords_serves {s : State} {l : Line} {op : CacheOp} (hlen : l.words.length = 16)
    (hbound : ∀ j ∈ op.listed, j < 16) (hnodup : op.listed.Nodup) (hwf : s.ram.wf = true) (hd : s.directoryBase % 4 = 0) :
    let m := (s.putRecordWords l.index (op.changes l.words)).ram
    (∀ j ∈ op.listed, (l.serve op false).words[j]? = some (m.word (s.recordOffset l.index j))
        ∧ m.faulty (s.recordOffset l.index j) = false)
      ∧ ∀ x, (∀ j ∈ op.listed, x / 4 ≠ s.recordOffset l.index j / 4) →
        m.byte x = s.ram.byte x ∧ m.faulty x = s.ram.faulty x := by
  refine ⟨fun j hj => ?_, fun x hx => State.putRecordWords_of_ne hwf fun p hp =>
    hx p.1 ((CacheOp.mem_listed_iff l.words).mpr ⟨p.2, hp⟩)⟩
  obtain ⟨x, hx⟩ := (CacheOp.mem_listed_iff l.words).mp hj
  refine ⟨?_, State.faulty_putRecordWords_of_mem s hx⟩
  rw [Line.serve_words_of_mem hlen hbound hnodup false hx,
    State.word_putRecordWords_of_mem hwf hd (by rwa [op.changes_listed]) hx]

theorem Line.serve_dirty (l : Line) (op : CacheOp) {q : Nat} (hq : q < 4) :
    (l.serve op true).dirty.getLsbD q = true ↔ l.dirty.getLsbD q = true ∨ ∃ j ∈ op.listed, j / 4 = q := by
  have hlisted : (∃ p ∈ op.changes l.words, p.1 / 4 = q) ↔ ∃ j ∈ op.listed, j / 4 = q := by
    rw [← op.changes_listed l.words]
    simp
  simp only [Line.serve, if_true, BitVec.getLsbD_or, Bool.or_eq_true, marksOf_getLsbD _ hq, hlisted]

/-! ## Pushes (R154) -/

/-- A push writes the one quarter that is marked, and all four when several are (R154). -/
theorem mem_pushQuarters (d : BitVec 4) (q : Nat) :
    q ∈ pushQuarters d ↔ q < 4 ∧ ((∃ a b, a < 4 ∧ b < 4 ∧ a ≠ b ∧ d.getLsbD a = true ∧ d.getLsbD b = true)
      ∨ d.getLsbD q = true) := by
  have hmarks : ∀ d : BitVec 4, ∀ q < 4, q ∈ pushQuarters d ↔
      (∃ a < 4, ∃ b < 4, a ≠ b ∧ d.getLsbD a = true ∧ d.getLsbD b = true) ∨ d.getLsbD q = true := by decide
  have hbound : ∀ d : BitVec 4, ∀ q ∈ pushQuarters d, q < 4 := by decide
  have hsome : (∃ a b, a < 4 ∧ b < 4 ∧ a ≠ b ∧ d.getLsbD a = true ∧ d.getLsbD b = true) ↔
      ∃ a < 4, ∃ b < 4, a ≠ b ∧ d.getLsbD a = true ∧ d.getLsbD b = true :=
    ⟨fun ⟨a, b, ha, hb, h⟩ => ⟨a, ha, b, hb, h⟩, fun ⟨a, ha, b, hb, h⟩ => ⟨a, b, ha, hb, h⟩⟩
  rw [hsome]
  exact ⟨fun h => ⟨hbound d q h, (hmarks d q (hbound d q h)).mp h⟩, fun ⟨hq, h⟩ => (hmarks d q hq).mpr h⟩

/-- The words that a push of a line writes. -/
def Line.pushWords (l : Line) : List (Nat × Word) := (pushQuarters l.dirty).flatMap fun q => quarterWords l.words q

theorem State.pushRecord_eq (s : State) (l : Line) : s.pushRecord l = s.putRecordWords l.index l.pushWords := rfl

theorem Line.mem_pushWords {l : Line} {j : Nat} {w : Word} :
    (j, w) ∈ l.pushWords ↔ j / 4 ∈ pushQuarters l.dirty ∧ w = l.words.getD j 0#32 := by
  simp only [Line.pushWords, quarterWords, List.mem_flatMap, List.mem_map, List.mem_range, Prod.mk.injEq]
  constructor
  · rintro ⟨q, hq, k, hk, rfl, rfl⟩
    exact ⟨by rwa [show (4 * q + k) / 4 = q by omega], rfl⟩
  · rintro ⟨hq, rfl⟩
    exact ⟨j / 4, hq, j % 4, by omega, by omega, by rw [show 4 * (j / 4) + j % 4 = j by omega]; rfl⟩

theorem Line.pushWords_nodup (l : Line) : (l.pushWords.map Prod.fst).Nodup := by
  have hplaces : ∀ d : BitVec 4, ((pushQuarters d).flatMap fun q => (List.range 4).map fun k => 4 * q + k).Nodup := by decide
  simpa [Line.pushWords, quarterWords, List.map_flatMap, Function.comp_def] using hplaces l.dirty

theorem State.pushRecord_pushes {s : State} (h : s.ram.wf = true) (hd : s.directoryBase % 4 = 0) (l : Line) :
    s.pushes (s.pushRecord l).ram l := by
  rw [State.pushRecord_eq]
  refine ⟨fun j hj hpushed => ?_, fun x hx => State.putRecordWords_of_ne h fun p hp => ?_⟩
  · have hmem : (j, l.words.getD j 0#32) ∈ l.pushWords :=
      Line.mem_pushWords.mpr ⟨(mem_pushQuarters _ _).mpr ⟨by omega, hpushed⟩, rfl⟩
    exact ⟨State.word_putRecordWords_of_mem h hd l.pushWords_nodup hmem, State.faulty_putRecordWords_of_mem s hmem⟩
  · obtain ⟨hquarter, -⟩ := Line.mem_pushWords.mp hp
    obtain ⟨hlt, hpushed⟩ := (mem_pushQuarters _ _).mp hquarter
    exact hx p.1 (by omega) hpushed

/-- A push reaches RAM alone. -/
theorem State.pushRecord_frame (s : State) (l : Line) : s.pushRecord l = { s with ram := (s.pushRecord l).ram } := by
  rw [State.pushRecord_eq, State.putRecordWords_eq]

end Sys2Proof.Machine
end

section
/-! The cache port: the ways of a set, the request that is granted, and what a grant does to a hit, a miss, a request that
must wait and a push-pending line (R148 to R154, R157, R165, R166, R169; logs 49 to 51). -/

namespace Sys2Proof.Machine

/-! ## The ways of a set (R148, R152) -/

/-- The first way of a set that meets a test. -/
theorem find?_ways_eq_some {p : Nat → Bool} {base v : Nat} (hv : v < 4) (hp : p (base + v) = true)
    (hlow : ∀ x, x < v → p (base + x) = false) :
    ((List.range 4).map fun way => base + way).find? p = some (base + v) := by
  have hrange : (List.range 4).find? (p ∘ fun way => base + way) = some v :=
    List.find?_range_eq_some.mpr ⟨hp, List.mem_range.mpr hv, fun x hx => by simp [hlow x hx]⟩
  rw [List.find?_map, hrange]
  rfl

theorem find?_ways_eq_none {p : Nat → Bool} {base : Nat} (h : ∀ v, v < 4 → p (base + v) = false) :
    ((List.range 4).map fun way => base + way).find? p = none := by
  rw [List.find?_eq_none]
  simpa using h

theorem Cache.way_misses {c : Cache} {index key : Nat} (h : ∀ l, assocFind key c.lines = some l → l.index ≠ index) :
    (assocFind key c.lines).any (fun l => l.index == index) = false := by
  cases hl : assocFind key c.lines with
  | none => rfl
  | some l => simpa using h l hl

theorem Cache.lineOf_eq_some {c : Cache} {index v : Nat} {l : Line} (hv : v < 4)
    (hl : assocFind (4 * (index / 64 % 64) + v) c.lines = some l) (hindex : l.index = index)
    (hlow : ∀ x, x < v → ∀ l', assocFind (4 * (index / 64 % 64) + x) c.lines = some l' → l'.index ≠ index) :
    c.lineOf index = some (4 * (index / 64 % 64) + v, l) := by
  have hlookup : c.lookup index = some (4 * (index / 64 % 64) + v) := by
    refine find?_ways_eq_some hv ?_ fun x hx => ?_
    · simp [cacheSet, hl, hindex]
    · exact Cache.way_misses (hlow x hx)
  simp [Cache.lineOf, hlookup, hl]

theorem Cache.lineOf_eq_none {c : Cache} {index : Nat}
    (h : ∀ v, v < 4 → ∀ l, assocFind (4 * (index / 64 % 64) + v) c.lines = some l → l.index ≠ index) :
    c.lineOf index = none := by
  have hlookup : c.lookup index = none := find?_ways_eq_none fun v hv => Cache.way_misses (h v hv)
  simp [Cache.lineOf, hlookup]

/-- The way of a fill: the lowest-numbered INVALID one, or the counted one (R152). -/
theorem Cache.wayFor_of_takesWay {c : Cache} {index key : Nat} (h : c.takesWay index key) : c.wayFor index = key := by
  have htest : ∀ x, (assocFind (4 * (index / 64 % 64) + x) c.lines).isSome = true →
      (assocFind (4 * (index / 64 % 64) + x) c.lines).isNone = false := fun x hx => by
    simpa [Option.isSome_iff_ne_none] using hx
  simp only [Cache.wayFor, cacheSet]
  rcases h with ⟨way, hway, rfl, hinvalid, hlow⟩ | ⟨hfull, rfl⟩
  · rw [find?_ways_eq_some (p := fun key => (assocFind key c.lines).isNone) hway (by simp [hinvalid]) fun x hx =>
      htest x (hlow x hx)]
    rfl
  · rw [find?_ways_eq_none (p := fun key => (assocFind key c.lines).isNone) fun v hv => htest v (hfull v hv)]
    rfl

/-! ## The quarter a fill reads first (R153) -/

theorem CacheOp.needs_iff (op : CacheOp) (q : Nat) : op.needs q ↔ q ∈ op.quarters := by
  cases op <;> simp [CacheOp.needs, CacheOp.quarters]

theorem CacheOp.firstQuarter_eq {op : CacheOp} {q : Nat} (hq : q < 4) (hneeds : op.needs q)
    (hleast : ∀ p, op.needs p → q ≤ p) : op.firstQuarter = q := by
  have hmin : (3 :: op.quarters).min? = some q := by
    refine List.min?_eq_some_iff.mpr ⟨List.mem_cons_of_mem _ ((op.needs_iff q).mp hneeds), fun p hp => ?_⟩
    rcases List.mem_cons.mp hp with rfl | hp
    · omega
    · exact hleast p ((op.needs_iff p).mpr hp)
  rw [List.min?_cons'] at hmin
  exact Option.some.inj hmin

/-! ## The requesters (R149, R150; log 51) -/

theorem Cache.presented_eq_some_iff (c : Cache) (who : Requester) (r : Request) :
    c.presented who = some r ↔ c.presents who r := by
  have hfill : (c.fill.any fun f => f.requester == who && f.request.isSome) = true ↔
      ¬ ∀ f, c.fill = some f → f.requester = who → f.request = none := by
    cases c.fill <;> simp [Option.isSome_iff_ne_none]
  unfold Cache.presented
  by_cases hgoes : ∀ f, c.fill = some f → f.requester = who → f.request = none
  · rw [if_neg (mt hfill.mp (not_not_intro hgoes))]
    cases who <;> simp [Cache.presents, eq_true hgoes]
  · rw [if_pos (hfill.mpr hgoes)]
    simp [Cache.presents, eq_false hgoes]

theorem Cache.presented_eq_none_iff (c : Cache) (who : Requester) : c.presented who = none ↔ ∀ r, ¬ c.presents who r := by
  simp only [Option.eq_none_iff_forall_ne_some, ne_eq, Cache.presented_eq_some_iff]

theorem Cache.chosen_of_nextGrant {c : Cache} {who : Requester} {r : Request} (h : c.nextGrant who r) :
    c.chosen = some (who, r) := by
  obtain ⟨hpresents, hair, hdelivery⟩ := h
  have hsome := (c.presented_eq_some_iff who r).mpr hpresents
  cases who with
  | airRoster => simp [Cache.chosen, hsome]
  | delivery => simp [Cache.chosen, hsome, (c.presented_eq_none_iff .airRoster).mpr (hair nofun)]
  | walker =>
    simp [Cache.chosen, hsome, (c.presented_eq_none_iff .airRoster).mpr (hair nofun),
      (c.presented_eq_none_iff .delivery).mpr (hdelivery rfl)]

theorem Cache.chosen_eq_none {c : Cache} (h : ∀ who r, ¬ c.presents who r) : c.chosen = none := by
  simp [Cache.chosen, (c.presented_eq_none_iff _).mpr (h _)]

theorem Cache.popRequest_eq (c : Cache) (who : Requester) : c.popRequest who = c.withoutFront who := by
  cases who <;> rfl

theorem Cache.setAside_eq (c : Cache) (who : Requester) : c.setAside who = c.marksAside who := by
  cases who <;> simp [Cache.setAside, Cache.marksAside]

theorem Cache.mustWait_iff (c : Cache) (index : Nat) :
    c.mustWait index = true ↔ (∃ f, c.fill = some f ∧ f.index = index) ∨ ∃ l, c.pushBuffer = some l ∧ l.index = index := by
  cases hfill : c.fill <;> cases hbuffer : c.pushBuffer <;> simp [Cache.mustWait, hfill, hbuffer]

/-! ## Grants (R150, R151) -/

theorem State.dropping_eq_false {s : State} (h : s.host.active ≠ some .dropAll) : s.dropping = false := by
  simpa [← State.dropping_iff] using h

theorem State.grantPort_of_nextGrant {s : State} {who : Requester} {r : Request} (hactive : s.host.active ≠ some .dropAll)
    (h : s.cache.nextGrant who r) : s.grantPort = s.grantRequest who r := by
  simp [State.grantPort, State.dropping_eq_false hactive, Cache.chosen_of_nextGrant h]

theorem State.grantRequest_of_busy {s : State} {r : Request} (h : s.cache.mustWait r.index = true) (who : Requester) :
    s.grantRequest who r = { s with cache := s.cache.marksAside who } := by
  rw [← Cache.setAside_eq]
  exact if_pos h

theorem State.grantRequest_of_hit {s : State} {r : Request} {key : Nat} {l : Line} (h : s.cache.mustWait r.index = false)
    (hline : s.cache.lineOf r.index = some (key, l)) (who : Requester) :
    s.grantRequest who r = s.grantHit who r key l := by
  simp [State.grantRequest, h, hline]

theorem State.grantRequest_of_miss {s : State} {r : Request} (h : s.cache.mustWait r.index = false)
    (hline : s.cache.lineOf r.index = none) (hfills : r.op.isWrite = true → s.isBack r.index = true) (who : Requester) :
    s.grantRequest who r = s.grantMiss who r := by
  have hram : (r.op.isWrite && !s.isBack r.index) = false := by
    cases hwrite : r.op.isWrite with
    | false => rfl
    | true => simp [hfills hwrite]
  simp [State.grantRequest, h, hline, hram]

theorem State.grantRequest_of_through {s : State} {r : Request} (h : s.cache.mustWait r.index = false)
    (hline : s.cache.lineOf r.index = none) (hwrite : r.op.isWrite = true) (hthrough : s.isBack r.index = false)
    (who : Requester) : s.grantRequest who r = s.grantThrough who r := by
  simp [State.grantRequest, h, hline, hwrite, hthrough]

/-- The start of a fill, block by block (R152, R153). -/
theorem State.grantMiss_of_noFill {s : State} {r : Request} {key : Nat} (hfill : s.cache.fill = none)
    (hway : s.cache.takesWay r.index key) (who : Requester) :
    s.grantMiss who r =
      { s with cache := { s.cache.withoutFront who with
          fill := some
            { key := key, index := r.index, requester := who, request := some r, first := r.op.firstQuarter, arrived := [] }
          replacement := s.cache.replacement + 1#2
          lines := assocDrop key s.cache.lines
          pushBuffer := (assocFind key s.cache.lines).filter fun l => l.dirty != 0#4 } } := by
  have hkey : (s.cache.withoutFront who).wayFor r.index = key := Cache.wayFor_of_takesWay hway
  have hidle : ¬ s.cache.fill.isSome = true := by simp [hfill]
  rw [State.grantMiss, if_neg hidle]
  simp only [State.onCache, Cache.popRequest_eq, Cache.startFill, hkey]
  rfl

/-! ## The sweeper (R165, R166, R169; log 49) -/

/-- In a list kept by rising number, a search finds the entry of the lowest number that meets the test. -/
theorem find?_of_rising {α : Type} {l : List (Nat × α)} {test : Nat × α → Bool} {k : Nat} {v : α}
    (hrising : rising l = true) (hv : assocFind k l = some v) (htest : test (k, v) = true)
    (hleast : ∀ p ∈ l, test p = true → k ≤ p.1) : l.find? test = some (k, v) := by
  induction l with
  | nil => simp [assocFind] at hv
  | cons p l ih =>
    obtain ⟨j, w⟩ := p
    have habove : risingAbove j l = true := hrising
    by_cases hj : j = k
    · subst hj
      obtain rfl : w = v := by simpa [assocFind] using hv
      exact List.find?_cons_of_pos htest
    · have hv' : assocFind k l = some v := by simpa [assocFind, hj] using hv
      have hlow : j < k := by
        by_contra hle
        rw [assocFind_of_risingAbove habove (by omega)] at hv'
        simp at hv'
      have hskip : ¬ test (j, w) = true := fun h => by
        have := hleast (j, w) List.mem_cons_self h
        omega
      rw [List.find?_cons_of_neg hskip]
      exact ih (rising_of_risingAbove habove) hv' fun p hp => hleast p (List.mem_cons_of_mem _ hp)

/-- The next push-pending way in order of set and way, from the sweeper's place and then from the first way (R165, R166). -/
theorem Cache.nextPending_eq {c : Cache} {place key : Nat} {l : Line} (hrising : rising c.lines = true)
    (hl : assocFind key c.lines = some l) (hpending : l.pushPending = true)
    (hnext : ∀ p ∈ c.lines, p.2.pushPending = true →
      place ≤ key ∧ (place ≤ p.1 → key ≤ p.1) ∨ p.1 < place ∧ key ≤ p.1) :
    c.nextPending place = some (key, l) := by
  simp only [Cache.nextPending, List.find?_filter, List.head?_filter]
  by_cases hplace : place ≤ key
  · rw [find?_of_rising hrising hl (by simp [hpending, hplace]) ?_]
    intro p hp htest
    simp only [decide_eq_true_eq] at htest
    have := hnext p hp htest.1
    omega
  · have hafter : c.lines.find? (fun p => decide (p.2.pushPending = true ∧ decide (place ≤ p.1) = true)) = none := by
      rw [List.find?_eq_none]
      intro p hp htest
      simp only [decide_eq_true_eq] at htest
      have := hnext p hp htest.1
      omega
    rw [hafter]
    refine find?_of_rising hrising hl hpending fun p hp htest => ?_
    have := hnext p hp htest
    omega

theorem State.grantPort_of_sweeper {s : State} {place key : Nat} {l : Line} (hactive : s.host.active ≠ some .dropAll)
    (hnone : ∀ who r, ¬ s.cache.presents who r) (hsweeper : s.cache.sweeper = some place)
    (hnext : s.cache.nextPending place = some (key, l)) : s.grantPort = (s.sweepLine key l).finishCacheCommands := by
  simp [State.grantPort, State.dropping_eq_false hactive, Cache.chosen_eq_none hnone, Cache.sweeperRequest, hsweeper, hnext]

/-- The pushed line is CLEAN and no longer pending, and the sweeper stands behind it (R165). -/
theorem State.sweepLine_eq (s : State) (key : Nat) (l : Line) :
    s.sweepLine key l =
      { s with
        ram := (s.pushRecord l).ram
        cache := { s.cache with
          lines := assocPut key { l with dirty := 0#4, pushPending := false } s.cache.lines
          sweeper := some (key + 1) } } := by
  rw [State.sweepLine, State.pushRecord_frame]
  rfl

theorem State.finishPush_of_other {s : State} (h : s.host.active ≠ some .pushAll) : s.finishPush = s :=
  if_neg fun h' => h h'.1

theorem State.finishDrop_of_other {s : State} (h : s.host.active ≠ some .dropAll) : s.finishDrop = s :=
  if_neg fun h' => h (s.dropping_iff.mp h'.1)

theorem State.finishLoaderPush_of_other {s : State} (h : s.loader ≠ .pushing) : s.finishLoaderPush = s :=
  if_neg fun h' => h h'.1

theorem State.finishLoaderPush_of_waits {s : State} (h : s.cache.fill.isSome = true ∨ s.cache.anyPending = true) :
    s.finishLoaderPush = s := by
  refine if_neg fun ⟨_, hfill, hpending⟩ => ?_
  rcases h with h | h
  · simp [Option.isNone_iff_eq_none.mp hfill] at h
  · simp [hpending] at h

theorem State.finishLoaderPush_of_done {s : State} (hloader : s.loader = .pushing) (hfill : s.cache.fill = none)
    (hpending : s.cache.anyPending = false) :
    s.finishLoaderPush =
      { s with loader := .checking, cache := { s.cache with lines := [], replacement := 0#2, sweeper := none } } :=
  if_pos ⟨hloader, by rw [hfill]; rfl, hpending⟩

/-- Under PUSH_ALL no other cache command can complete (R165). -/
theorem State.finishCacheCommands_of_pushAll {s : State} (hactive : s.host.active = some .pushAll)
    (hloader : s.loader ≠ .pushing) : s.finishCacheCommands = s.finishPush := by
  have hkeeps : s.finishPush.host.active ≠ some .dropAll ∧ s.finishPush.loader ≠ .pushing := by
    unfold State.finishPush
    split
    · exact ⟨nofun, hloader⟩
    · exact ⟨by simp [hactive], hloader⟩
  rw [State.finishCacheCommands, State.finishDrop_of_other hkeeps.1, State.finishLoaderPush_of_other hkeeps.2]

/-- Under RELOAD only the Loader's push can end (R169). -/
theorem State.finishCacheCommands_of_other {s : State} (hpush : s.host.active ≠ some .pushAll)
    (hdrop : s.host.active ≠ some .dropAll) : s.finishCacheCommands = s.finishLoaderPush := by
  rw [State.finishCacheCommands, State.finishPush_of_other hpush, State.finishDrop_of_other hdrop]

@[simp] theorem State.finishCacheCommands_ram (s : State) : s.finishCacheCommands.ram = s.ram := by
  have hpush : s.finishPush.ram = s.ram := by unfold State.finishPush; split <;> rfl
  have hdrop : s.finishPush.finishDrop.ram = s.finishPush.ram := by unfold State.finishDrop; split <;> rfl
  have hloader : s.finishCacheCommands.ram = s.finishPush.finishDrop.ram := by
    unfold State.finishCacheCommands State.finishLoaderPush; split <;> rfl
  rw [hloader, hdrop, hpush]

end Sys2Proof.Machine

namespace Sys2Proof.DirectoryCache
open Sys2Proof.Machine

/-- Settles O44: the requester named is the next to be granted, no way holds its record, and its miss starts the fill. -/
theorem portGrantsStartFills : Obligations.PortGrantsStartFills := by
  intro s who r key hactive hfill hbuffer hmissed hfills hway hwho
  have hgrant : s.cache.nextGrant who r := by
    have hgoes : ∀ who f, s.cache.fill = some f → f.requester = who → f.request = none := by simp [hfill]
    rcases hwho with ⟨rfl, hhead, haside⟩ | ⟨rfl, hair, hhead, haside⟩ | ⟨rfl, hair, hdelivery, hrequest, haside⟩
    · exact ⟨⟨hgoes _, haside, hhead⟩, by simp, by simp⟩
    · exact ⟨⟨hgoes _, haside, hhead⟩, by simp [Cache.presents, hair], by simp⟩
    · exact ⟨⟨hgoes _, haside, hrequest⟩, by simp [Cache.presents, hair], by simp [Cache.presents, hdelivery]⟩
  have hfree : s.cache.mustWait r.index = false := by
    rw [← Bool.not_eq_true, Cache.mustWait_iff]
    simp [hfill, hbuffer]
  have hexec : exec .portGrant s = .next s.grantPort := rfl
  rw [hexec, State.grantPort_of_nextGrant hactive hgrant,
    State.grantRequest_of_miss hfree (Cache.lineOf_eq_none hmissed) hfills, State.grantMiss_of_noFill hfill hway]
  exact ⟨_, r.op.firstQuarter, rfl, rfl, fun q hq hneeds hleast => CacheOp.firstQuarter_eq hq hneeds hleast, rfl, rfl, rfl,
    rfl⟩

/-- Settles O45: service on a line by the policy; the grant by where the record stands; and the sweeper's grant, by whether
its line was the last. -/
theorem hitsFollowTheWritePolicy : Obligations.HitsFollowTheWritePolicy := by
  refine ⟨fun s key l op hlen hbound hnodup hwf hd =>
      ⟨fun hread => State.serveOnLine_of_read hread s key l, fun hlisted => ?service⟩,
    fun s who r hactive hgrant => ?grant,
    fun s place key l hactive hnone hsweeper hrising hl hpending hwf hd hnext => ?sweeper⟩
  case service =>
    obtain ⟨hback, hbackOthers⟩ := Line.serve_words hlen hbound hnodup true
    obtain ⟨hthrough, hthroughOthers⟩ := Line.serve_words hlen hbound hnodup false
    cases hpolicy : s.isBack l.index with
    | true =>
      rw [State.serveOnLine_of_back hlisted hpolicy]
      exact ⟨l.serve op true, rfl, rfl, hback, hbackOthers, rfl, rfl, fun _ => ⟨rfl, fun _ => l.serve_dirty op⟩, nofun⟩
    | false =>
      rw [State.serveOnLine_of_through hlisted hpolicy]
      exact ⟨l.serve op false, rfl, rfl, hthrough, hthroughOthers, rfl, rfl, nofun,
        fun _ => ⟨rfl, State.putRecordWords_serves hlen hbound hnodup hwf hd⟩⟩
  case grant =>
    intro way busy missed popped
    have hexec : exec .portGrant s = .next (s.grantRequest who r) :=
      congrArg Host.Outcome.next (State.grantPort_of_nextGrant hactive hgrant)
    have hfree : ¬ busy → s.cache.mustWait r.index = false := fun h => by
      rw [← Bool.not_eq_true]
      exact mt (s.cache.mustWait_iff r.index).mp h
    rw [hexec]
    refine ⟨fun hwaits => ?_, fun v l hidle hv hl hindex hlow => ?_, fun words hidle hmissed hop hthrough => ?_⟩
    · by_cases hbusy : busy
      · rw [State.grantRequest_of_busy ((s.cache.mustWait_iff r.index).mpr hbusy)]
      · obtain ⟨hmissed, hfill, hfills⟩ := hwaits.resolve_left hbusy
        rw [State.grantRequest_of_miss (hfree hbusy) (Cache.lineOf_eq_none hmissed) hfills, State.grantMiss, if_pos hfill,
          ← Cache.setAside_eq]
        rfl
    · rw [State.grantRequest_of_hit (hfree hidle) (Cache.lineOf_eq_some hv hl hindex hlow), State.grantHit]
      simp only [State.onCache, Cache.popRequest_eq]
      rfl
    · rw [State.grantRequest_of_through (hfree hidle) (Cache.lineOf_eq_none hmissed) (by rw [hop]; rfl) hthrough,
        State.grantThrough, State.putRecordWords_foldl, hop]
      simp only [State.onCache, Cache.popRequest_eq]
      rfl
  case sweeper =>
    intro lines more
    have hother : s.host.active ≠ some .dropAll := by rcases hactive with ⟨h, -⟩ | ⟨h, -⟩ <;> simp [h]
    have hmore : (s.sweepLine key l).cache.anyPending = true ↔ more := by rw [Cache.anyPending_iff, State.sweepLine_eq]
    have hlast : ¬ more → (s.sweepLine key l).cache.anyPending = false := fun h => by
      rw [← Bool.not_eq_true]
      exact mt hmore.mp h
    refine ⟨(s.sweepLine key l).finishCacheCommands, congrArg Host.Outcome.next (State.grantPort_of_sweeper hother hnone
      hsweeper (Cache.nextPending_eq hrising hl hpending hnext)), ?_, ?_⟩
    · rw [State.finishCacheCommands_ram, State.sweepLine_eq]
      exact State.pushRecord_pushes hwf hd l
    rcases hactive with ⟨hactive, hloader⟩ | ⟨hactive, hloader⟩
    · rw [State.finishCacheCommands_of_pushAll (by rw [State.sweepLine_eq]; exact hactive)
        (by rw [State.sweepLine_eq]; simp [hloader])]
      refine ⟨fun hwaits => ?_, fun _ hpushing => ?_, fun hdone _ => ?_⟩
      · rw [State.finishPush_of_pending (hmore.mpr (hwaits.resolve_right (by simp [hloader]))), State.sweepLine_eq]
      · simp [hloader] at hpushing
      · rw [State.finishPush_of_done (by rw [State.sweepLine_eq]; exact hactive) (hlast hdone), State.sweepLine_eq]
        rfl
    · rw [State.finishCacheCommands_of_other (by rw [State.sweepLine_eq]; simp [hactive])
        (by rw [State.sweepLine_eq]; simp [hactive])]
      refine ⟨fun hwaits => ?_, fun hdone _ hfill => ?_, fun _ hidle => ?_⟩
      · have hstays : (s.sweepLine key l).cache.fill.isSome = true ∨ (s.sweepLine key l).cache.anyPending = true := by
          rw [hmore, State.sweepLine_eq]
          exact hwaits.symm.imp And.right id
        rw [State.finishLoaderPush_of_waits hstays, State.sweepLine_eq]
      · rw [State.finishLoaderPush_of_done (by rw [State.sweepLine_eq]; exact hloader)
          (by rw [State.sweepLine_eq]; exact hfill) (hlast hdone), State.sweepLine_eq]
      · simp [hloader] at hidle

end Sys2Proof.DirectoryCache
end

section
/-! The record that a fill brings in: the quarters that arrive, in rising order from the first, the words the line read
buffer holds of them, and where a parity fault stops the reading (R153, R155). -/

namespace Sys2Proof.Machine

/-! ## Blocks of four words -/

theorem getD_takeD {α : Type} (n : Nat) (l : List α) (d : α) {m : Nat} (hm : m < n) :
    (l.takeD n d).getD m d = l.getD m d := by
  induction n generalizing l m with
  | zero => omega
  | succ n ih =>
    cases m with
    | zero => cases l <;> simp
    | succ m =>
      rw [List.takeD_succ, List.getD_cons_succ, ih l.tail (by omega)]
      cases l <;> simp

/-- Blocks of four, one after another. -/
theorem flatMap_blocks {α : Type} (d : α) {g : Nat → List α} (hg : ∀ q, (g q).length = 4) (n : Nat) :
    ((List.range n).flatMap g).length = 4 * n
      ∧ ∀ j, j < 4 * n → ((List.range n).flatMap g).getD j d = (g (j / 4)).getD (j % 4) d := by
  induction n with
  | zero => simp
  | succ n ih =>
    obtain ⟨hlen, hget⟩ := ih
    have hsucc : (List.range (n + 1)).flatMap g = (List.range n).flatMap g ++ g n := by simp [List.range_succ]
    refine ⟨by rw [hsucc, List.length_append, hlen, hg]; omega, fun j hj => ?_⟩
    rw [hsucc]
    by_cases hj' : j < 4 * n
    · rw [List.getD_append _ _ _ _ (by omega), hget j hj']
    · rw [List.getD_append_right _ _ _ _ (by omega), hlen, show j / 4 = n by omega, show j - 4 * n = j % 4 by omega]

theorem eq_map_getD {α : Type} (d : α) {l : List α} {n : Nat} (h : l.length = n) :
    l = (List.range n).map fun j => l.getD j d := by
  refine List.ext_getElem (by simp [h]) fun j hj _ => ?_
  simp [List.getD, hj]

/-! ## The words of the line read buffer (R153) -/

/-- The place, in the order of the reading, of the quarter that holds word j. -/
def Fill.placeOf (f : Fill) (j : Nat) : Nat := (j / 4 + 4 - f.first) % 4

theorem Fill.placeOf_lt (f : Fill) (j : Nat) : f.placeOf j < 4 := Nat.mod_lt _ (by omega)

theorem Fill.quarterAt_placeOf {f : Fill} (hfirst : f.first < 4) {j : Nat} (hj : j < 16) :
    f.quarterAt (f.placeOf j) = j / 4 := by
  simp only [Fill.quarterAt, Fill.placeOf]
  omega

theorem Fill.placeOf_quarterAt {f : Fill} (hfirst : f.first < 4) {k m : Nat} (hk : k < 4) (hm : m < 4) :
    f.placeOf (4 * f.quarterAt k + m) = k := by
  simp only [Fill.quarterAt, Fill.placeOf]
  omega

/-- Where the buffer holds a quarter: at its place, when the reading has come so far. -/
theorem Fill.find?_quarterAt {f : Fill} (hfirst : f.first < 4) {j : Nat} (hj : j < 16) :
    ((List.range f.arrived.length).find? fun k => f.quarterAt k == j / 4) =
      if f.placeOf j < f.arrived.length then some (f.placeOf j) else none := by
  have hearlier : ∀ k, k < 4 → k ≠ f.placeOf j → ¬ f.quarterAt k = j / 4 := by
    intro k hk
    simp only [Fill.quarterAt, Fill.placeOf]
    omega
  have hplace := f.placeOf_lt j
  split
  next hlt =>
    refine List.find?_range_eq_some.mpr ⟨by simp [Fill.quarterAt_placeOf hfirst hj], List.mem_range.mpr hlt, fun k hk => ?_⟩
    simp [hearlier k (by omega) (by omega)]
  next hge =>
    rw [List.find?_eq_none]
    intro k hk
    have := List.mem_range.mp hk
    simp [hearlier k (by omega) (by omega)]

/-- The words of the buffer: those of the quarters that have arrived, and 0 for the others. -/
theorem Fill.words_spec {f : Fill} (hfirst : f.first < 4) :
    f.words.length = 16 ∧ ∀ j, j < 16 → f.words.getD j 0#32 =
      if f.placeOf j < f.arrived.length then (f.arrived.getD (f.placeOf j) []).getD (j % 4) 0#32 else 0#32 := by
  have hblocks := flatMap_blocks (0#32) (g := fun q =>
    match (List.range f.arrived.length).find? fun k => f.quarterAt k == q with
    | some k => (f.arrived.getD k []).takeD 4 0#32
    | none => List.replicate 4 0#32) (fun q => by split <;> simp) 4
  refine ⟨hblocks.1, fun j hj => (hblocks.2 j hj).trans ?_⟩
  have hm : j % 4 < 4 := Nat.mod_lt _ (by omega)
  rw [Fill.find?_quarterAt hfirst hj]
  by_cases hlt : f.placeOf j < f.arrived.length
  · rw [if_pos hlt, if_pos hlt]
    exact getD_takeD 4 _ _ hm
  · rw [if_neg hlt, if_neg hlt]
    exact List.getD_replicate _ hm

theorem State.fillWord_eq (s : State) (f : Fill) (j : Nat) :
    s.fillWord f j =
      if f.placeOf j < f.arrived.length then (f.arrived.getD (f.placeOf j) []).getD (j % 4) 0#32
      else s.ram.word (s.recordOffset f.index j) := rfl

/-- A word whose quarter has arrived stands in the buffer. -/
theorem State.getD_words_of_arrived (s : State) {f : Fill} (hfirst : f.first < 4) {j : Nat} (hj : j < 16)
    (harrived : f.placeOf j < f.arrived.length) : f.words.getD j 0#32 = s.fillWord f j := by
  rw [(Fill.words_spec hfirst).2 j hj, State.fillWord_eq, if_pos harrived, if_pos harrived]

/-! ## Reading on (R153, R155) -/

/-- The quarter at a place of the order has arrived, or reads without a fault. -/
def State.readsAt (s : State) (f : Fill) (k : Nat) : Prop := k < f.arrived.length ∨ s.quarterFaulty f (f.quarterAt k) = false

theorem State.readsAt_iff {s : State} {f : Fill} (hfirst : f.first < 4) {k : Nat} (hk : k < 4) :
    s.readsAt f k ↔ ∀ m, m < 4 → ¬ s.fillFaults f (4 * f.quarterAt k + m) := by
  have hfaults : ∀ m, m < 4 → (s.fillFaults f (4 * f.quarterAt k + m) ↔
      f.arrived.length ≤ k ∧ s.ram.faulty (s.recordOffset f.index (4 * f.quarterAt k + m)) = true) := fun m hm => by
    have hplace := Fill.placeOf_quarterAt hfirst hk hm
    rw [Fill.placeOf] at hplace
    rw [State.fillFaults, hplace]
  rw [State.readsAt, State.quarterFaulty_eq_false_iff]
  refine ⟨fun h m hm hfault => ?_, fun h => ?_⟩
  · obtain ⟨hle, hbad⟩ := (hfaults m hm).mp hfault
    rcases h with h | h
    · omega
    · simp [h m hm] at hbad
  · by_cases hk' : k < f.arrived.length
    · exact .inl hk'
    · refine .inr fun m hm => ?_
      by_contra hbad
      exact h m hm ((hfaults m hm).mpr ⟨by omega, by simpa using hbad⟩)

/-- One reading leaves the fill but for the line read buffer. -/
theorem State.readQuarter_frame (s : State) (f : Fill) :
    s.readQuarter f = { f with arrived := (s.readQuarter f).arrived } := by
  unfold State.readQuarter
  dsimp only
  split <;> rfl

/-- A quarter that arrives brings the words that RAM holds: no word of the record changes by being read. -/
theorem State.readQuarter_fillWord {s : State} {f : Fill} (hfirst : f.first < 4) {j : Nat} (hj : j < 16) :
    s.fillWord (s.readQuarter f) j = s.fillWord f j := by
  by_cases harrives : f.arrived.length < 4 ∧ s.quarterFaulty f (f.quarterAt f.arrived.length) = false
  case neg => rw [State.readQuarter_of_not_arrives harrives]
  obtain ⟨hmore, hgood⟩ := harrives
  have hread : ∀ ws, s.fillWord { f with arrived := f.arrived ++ [ws] } j =
      if f.placeOf j < f.arrived.length + 1 then ((f.arrived ++ [ws]).getD (f.placeOf j) []).getD (j % 4) 0#32
      else s.ram.word (s.recordOffset f.index j) := fun ws => by
    rw [show f.arrived.length + 1 = (f.arrived ++ [ws]).length by simp]
    rfl
  rw [State.readQuarter_of_arrives hmore hgood, hread, State.fillWord_eq]
  rcases Nat.lt_trichotomy (f.placeOf j) f.arrived.length with hlt | heq | hgt
  · rw [if_pos (by omega), if_pos hlt, List.getD_append _ _ _ _ hlt]
  · have hquarter : f.quarterAt f.arrived.length = j / 4 := heq ▸ Fill.quarterAt_placeOf hfirst hj
    have hoffset : s.recordOffset f.index (4 * (j / 4)) + 4 * (j % 4) = s.recordOffset f.index j := by
      simp only [State.recordOffset]
      omega
    rw [if_pos (by omega), if_neg (by omega), List.getD_append_right _ _ _ _ (by omega), heq, hquarter]
    simp [Ram.words, List.getD, Nat.mod_lt, hoffset]
  · rw [if_neg (by omega), if_neg (by omega)]

/-- Readings one after another: a place is reached when it and every place before it read. -/
theorem State.lt_readQuarter_iterate (s : State) (n : Nat) {f : Fill} {k : Nat} (hk : k < 4) :
    k < (s.readQuarter^[n] f).arrived.length ↔ k < f.arrived.length + n ∧ ∀ i, i ≤ k → s.readsAt f i := by
  induction n generalizing f with
  | zero => exact ⟨fun h => ⟨h, fun i hi => .inl (hi.trans_lt h)⟩, And.left⟩
  | succ n ih =>
    rw [Function.iterate_succ_apply, ih]
    by_cases harrives : f.arrived.length < 4 ∧ s.quarterFaulty f (f.quarterAt f.arrived.length) = false
    case neg =>
      rw [State.readQuarter_of_not_arrives harrives]
      refine and_congr_left fun hreads => ⟨by omega, fun _ => ?_⟩
      by_contra hstop
      rcases hreads f.arrived.length (by omega) with h | h
      · omega
      · exact harrives ⟨by omega, h⟩
    case pos =>
      obtain ⟨hmore, hgood⟩ := harrives
      rw [State.readQuarter_of_arrives hmore hgood]
      have hreads : ∀ ws i, s.readsAt { f with arrived := f.arrived ++ [ws] } i ↔ s.readsAt f i := fun ws i => by
        have hlength : i < (f.arrived ++ [ws]).length ↔ i < f.arrived.length ∨ i = f.arrived.length := by
          simp only [List.length_append, List.length_singleton]
          omega
        refine (or_congr_left hlength).trans ⟨?_, Or.imp_left .inl⟩
        rintro ((h | rfl) | h)
        · exact .inl h
        · exact .inr hgood
        · exact .inr h
      simp only [hreads, List.length_append, List.length_singleton, Nat.add_assoc, Nat.add_comm 1 n]

theorem State.readQuarter_iterate_spec {s : State} (n : Nat) {f : Fill} (hfirst : f.first < 4) :
    s.readQuarter^[n] f = { f with arrived := (s.readQuarter^[n] f).arrived }
      ∧ ∀ j, j < 16 → s.fillWord (s.readQuarter^[n] f) j = s.fillWord f j := by
  induction n with
  | zero => exact ⟨rfl, fun _ _ => rfl⟩
  | succ n ih =>
    obtain ⟨hframe, hwords⟩ := ih
    rw [Function.iterate_succ_apply']
    have hfirst' : (s.readQuarter^[n] f).first < 4 := by rwa [hframe]
    refine ⟨?_, fun j hj => (State.readQuarter_fillWord hfirst' hj).trans (hwords j hj)⟩
    rw [State.readQuarter_frame, hframe]

theorem State.readOn_eq_iterate (s : State) (f : Fill) : s.readOn f = s.readQuarter^[4] f := rfl

/-- What reading on leaves of the fill, and the words it brings in. -/
theorem State.readOn_spec {s : State} {f : Fill} (hfirst : f.first < 4) :
    s.readOn f = { f with arrived := (s.readOn f).arrived } ∧ ∀ j, j < 16 → s.fillWord (s.readOn f) j = s.fillWord f j := by
  rw [State.readOn_eq_iterate]
  exact State.readQuarter_iterate_spec 4 hfirst

theorem State.readOn_first {s : State} {f : Fill} (hfirst : f.first < 4) : (s.readOn f).first = f.first := by
  rw [(State.readOn_spec hfirst).1]

/-- Reading on comes to a place when every word up to it has been read or reads without a fault. -/
theorem State.lt_readOn_iff (s : State) (f : Fill) {k : Nat} (hk : k < 4) :
    k < (s.readOn f).arrived.length ↔ ∀ i, i ≤ k → s.readsAt f i := by
  rw [State.readOn_eq_iterate]
  exact (s.lt_readQuarter_iterate 4 hk).trans (and_iff_right (by omega))

theorem State.readOn_words {s : State} {f : Fill} (hfirst : f.first < 4) {j : Nat} (hj : j < 16)
    (harrived : f.placeOf j < (s.readOn f).arrived.length) : (s.readOn f).words.getD j 0#32 = s.fillWord f j := by
  have hplace : (s.readOn f).placeOf j = f.placeOf j := by rw [Fill.placeOf, State.readOn_first hfirst, Fill.placeOf]
  rw [s.getD_words_of_arrived (by rwa [State.readOn_first hfirst]) hj (by rwa [hplace]), (State.readOn_spec hfirst).2 j hj]

/-- A fill whose words all read is complete, and its record is the one it brings in. -/
theorem State.readOn_complete {s : State} {f : Fill} (hfirst : f.first < 4) (hgood : ∀ j, j < 16 → ¬ s.fillFaults f j) :
    (s.readOn f).complete = true ∧ (s.readOn f).words = (List.range 16).map (s.fillWord f) := by
  have hreads : ∀ i, i ≤ 3 → s.readsAt f i := fun i hi => by
    rw [State.readsAt_iff hfirst (by omega)]
    have : f.quarterAt i < 4 := Nat.mod_lt _ (by omega)
    exact fun m hm => hgood _ (by omega)
  have hlen : 3 < (s.readOn f).arrived.length := (s.lt_readOn_iff f (by omega)).mpr hreads
  refine ⟨decide_eq_true (by omega), ?_⟩
  have hwords := (Fill.words_spec (f := s.readOn f) (by rwa [State.readOn_first hfirst])).1
  rw [eq_map_getD (0#32) hwords]
  refine List.map_congr_left fun j hj => State.readOn_words hfirst (List.mem_range.mp hj) ?_
  have := f.placeOf_lt j
  omega

/-- A fill with a faulty word still to be read does not complete. -/
theorem State.readOn_not_complete {s : State} {f : Fill} (hfirst : f.first < 4) {j : Nat} (hj : j < 16)
    (hfault : s.fillFaults f j) : (s.readOn f).arrived.length < 4 := by
  by_contra hlen
  have hplace := f.placeOf_lt j
  have hreads := (s.lt_readOn_iff f (k := 3) (by omega)).mp (by omega) (f.placeOf j) (by omega)
  rw [State.readsAt_iff hfirst hplace, Fill.quarterAt_placeOf hfirst hj] at hreads
  refine hreads (j % 4) (Nat.mod_lt _ (by omega)) ?_
  rwa [show 4 * (j / 4) + j % 4 = j by omega]

end Sys2Proof.Machine
end

section
/-! The end of a fill: the commands that waited for it, the accesses the Host Link held, and what an installed or abandoned
fill leaves of lines, push buffer and RAM (R153 to R156, R163, R165, R167, R169, R180; log 13). -/

namespace Sys2Proof.Machine

/-! ## Accesses that wait for nothing (R163, R167) -/

/-- No access is held and none would be: no fill is in progress, and DROP_ALL waits for none. -/
def State.quiet (s : State) : Prop := s.host.held = [] ∧ s.cache.fill = none ∧ s.host.active ≠ some .dropAll

theorem State.holds_of_quiet {s : State} (h : s.quiet) (addr : BitVec 24) : s.holds addr = false := by
  obtain ⟨hheld, hfill, hactive⟩ := h
  have hwaits : ∀ off, s.snoopWaits off = false := fun off => by
    simp [State.snoopWaits, hfill, State.dropping_eq_false hactive]
  unfold State.holds
  split <;> simp [hheld, hwaits]

/-- A read that waits for nothing reaches the word read and the causes alone. -/
theorem State.answerRead_keeps (s : State) (addr : BitVec 24) :
    (s.answerRead addr).host.held = s.host.held ∧ (s.answerRead addr).host.active = s.host.active
      ∧ (s.answerRead addr).cache.fill = s.cache.fill := by
  have hram : ∀ off, (s.ramRead off).host.held = s.host.held ∧ (s.ramRead off).host.active = s.host.active
      ∧ (s.ramRead off).cache.fill = s.cache.fill := fun off => by
    rw [State.ramRead_eq]
    exact ⟨rfl, rfl, rfl⟩
  unfold State.answerRead
  split
  · split
    · unfold State.snoopWordRead
      split
      · exact ⟨rfl, rfl, rfl⟩
      · exact ⟨rfl, rfl, rfl⟩
      · exact hram _
      · exact hram _
    · exact hram _
  · exact hram _
  · exact ⟨rfl, rfl, rfl⟩
  · exact ⟨rfl, rfl, rfl⟩

/-- A write that waits for nothing reaches a word of RAM, a line or the buffered record alone. -/
theorem State.answerWrite_keeps (s : State) (addr : BitVec 24) (w : Word) :
    (s.answerWrite addr w).host.held = s.host.held ∧ (s.answerWrite addr w).host.active = s.host.active
      ∧ (s.answerWrite addr w).cache.fill = s.cache.fill := by
  unfold State.answerWrite
  split
  · split
    · unfold State.snoopWordWrite
      split <;> exact ⟨rfl, rfl, rfl⟩
    · exact ⟨rfl, rfl, rfl⟩
  · exact ⟨rfl, rfl, rfl⟩
  · exact ⟨rfl, rfl, rfl⟩
  · exact ⟨rfl, rfl, rfl⟩

theorem State.quiet_of_keeps {s t : State} (h : s.quiet)
    (hkeeps : t.host.held = s.host.held ∧ t.host.active = s.host.active ∧ t.cache.fill = s.cache.fill) : t.quiet := by
  obtain ⟨hheld, hactive, hfill⟩ := hkeeps
  rwa [State.quiet, hheld, hactive, hfill]

/-- In a quiet state the accesses are answered one after another, each as if it arrived now (R163; log 13). -/
theorem State.answersHeld_foldl {s : State} (h : s.quiet) (accesses : List HostAccess) :
    s.answersHeld accesses (accesses.foldl State.answerAccess s) := by
  induction accesses generalizing s with
  | nil => rfl
  | cons a accesses ih =>
    have haccess : s.access a = s.answerAccess a := State.access_of_free (State.holds_of_quiet h _)
    cases a with
    | read addr => exact ⟨_, congrArg Host.Outcome.next haccess, ih (State.quiet_of_keeps h (s.answerRead_keeps addr))⟩
    | write addr w => exact ⟨_, congrArg Host.Outcome.next haccess, ih (State.quiet_of_keeps h (s.answerWrite_keeps addr w))⟩

/-! ## The commands that waited (R165, R167, R169, R180) -/

/-- With no fill in progress at most one of the three completions has its command. -/
theorem State.finishCacheCommands_eq {s : State} (hfill : s.cache.fill = none)
    (hload : s.loader = .pushing → s.host.active = some .reload) : s.finishCacheCommands = s.cacheCommandsEnd := by
  unfold State.cacheCommandsEnd
  by_cases hpush : s.host.active = some .pushAll
  · rw [State.finishCacheCommands_of_pushAll hpush (fun h => by simp [hload h] at hpush), if_pos hpush]
    cases hpending : s.cache.anyPending with
    | true => exact (State.finishPush_of_pending hpending).trans (if_pos hpending).symm
    | false => exact (State.finishPush_of_done hpush hpending).trans (if_neg (ne_true_of_eq_false hpending)).symm
  rw [if_neg hpush]
  by_cases hdrop : s.host.active = some .dropAll
  · have hidle : s.loader ≠ .pushing := fun h => by simp [hload h] at hdrop
    rw [State.finishCacheCommands, State.finishPush_of_other hpush, State.finishDrop_of_done hdrop hfill, if_pos hdrop,
      State.finishLoaderPush_of_other (by exact hidle)]
  rw [State.finishCacheCommands_of_other hpush hdrop, if_neg hdrop]
  by_cases hpushing : s.loader = .pushing
  · rw [if_pos hpushing]
    cases hpending : s.cache.anyPending with
    | true => exact (State.finishLoaderPush_of_waits (.inr hpending)).trans (if_pos hpending).symm
    | false =>
      exact (State.finishLoaderPush_of_done hpushing hfill hpending).trans (if_neg (ne_true_of_eq_false hpending)).symm
  · rw [State.finishLoaderPush_of_other hpushing, if_neg hpushing]

/-- The completions look at no access that is held. -/
theorem State.cacheCommandsEnd_held (s : State) (l : List HostAccess) :
    ({ s with host := { s.host with held := l } } : State).cacheCommandsEnd =
      { s.cacheCommandsEnd with host := { s.cacheCommandsEnd.host with held := l } } := by
  unfold State.cacheCommandsEnd
  dsimp only
  split_ifs <;> rfl

theorem State.cacheCommandsEnd_host_held (s : State) : s.cacheCommandsEnd.host.held = s.host.held := by
  unfold State.cacheCommandsEnd
  dsimp only
  split_ifs <;> rfl

theorem State.cacheCommandsEnd_quiet {s : State} (hheld : s.host.held = []) (hfill : s.cache.fill = none) :
    s.cacheCommandsEnd.quiet := by
  refine ⟨s.cacheCommandsEnd_host_held.trans hheld, ?_, ?_⟩
  · unfold State.cacheCommandsEnd
    dsimp only
    split_ifs <;> exact hfill
  · unfold State.cacheCommandsEnd
    dsimp only
    split_ifs with hpush _ hdrop
    · simp [hpush]
    · nofun
    · nofun
    · exact hdrop
    · exact hdrop
    · exact hdrop

/-! ## The end of a fill (R150, R163) -/

/-- The fill is over: what it set aside waits again, and nothing is held. -/
def State.fillOver (s : State) : State :=
  { s with
    host := { s.host with held := [] }
    cache := { s.cache with fill := none, airAside := false, deliveryAside := false, walkerAside := false } }

/-- After its end the commands that waited go on, and the accesses held are answered, oldest first (log 13). -/
theorem State.endFill_answersHeld {s : State} (hload : s.loader = .pushing → s.host.active = some .reload) :
    s.fillOver.cacheCommandsEnd.answersHeld s.host.held s.endFill := by
  have hend : s.endFill = s.host.held.foldl State.answerAccess s.fillOver.cacheCommandsEnd := by
    unfold State.endFill State.drainHeld
    rw [State.finishCacheCommands_eq (by rfl) (by exact hload), State.cacheCommandsEnd_host_held]
    exact congrArg (List.foldl State.answerAccess · s.host.held) (State.cacheCommandsEnd_held _ []).symm
  rw [hend]
  exact State.answersHeld_foldl (State.cacheCommandsEnd_quiet rfl rfl) s.host.held

/-- The starting request, when it has not been withdrawn, is answered (R151, R156). -/
def State.answerStart (s : State) (f : Fill) (a : Request → Answer) (ident : BitVec 24) : State :=
  match f.request with
  | none => s
  | some r => s.deliver r (a r) ident

/-- The starting request, when it has not been withdrawn, is served on the line that the fill installs (R153). -/
def State.serveStart (s : State) (f : Fill) (l : Line) : State :=
  match f.request with
  | none => s
  | some r => s.serveOnLine f.key l r.op

theorem State.serveStart_frame (s : State) (f : Fill) (l : Line) :
    s.serveStart f l =
      { s with ram := (s.serveStart f l).ram, cache := { s.cache with lines := (s.serveStart f l).cache.lines } } := by
  unfold State.serveStart
  cases f.request with
  | none => rfl
  | some r => exact s.serveOnLine_frame f.key l r.op

theorem State.wf_serveStart {s : State} (h : s.ram.wf = true) (f : Fill) (l : Line) : (s.serveStart f l).ram.wf = true := by
  unfold State.serveStart
  cases f.request with
  | none => exact h
  | some r => exact State.wf_serveOnLine h f.key l r.op

theorem State.pushBuffered_frame (s : State) :
    s.pushBuffered = { s with ram := s.pushBuffered.ram, cache := { s.cache with pushBuffer := none } } := by
  unfold State.pushBuffered
  cases hbuffer : s.cache.pushBuffer with
  | none => simp [← hbuffer]
  | some l =>
    dsimp only
    rw [State.pushRecord_frame]
    rfl

theorem State.pushBuffered_ram_of_none {s : State} (h : s.cache.pushBuffer = none) : s.pushBuffered.ram = s.ram := by
  simp [State.pushBuffered, h]

theorem State.pushBuffered_ram_of_some {s : State} {l : Line} (h : s.cache.pushBuffer = some l) :
    s.pushBuffered.ram = (s.pushRecord l).ram := by
  simp [State.pushBuffered, h]

/-! ## A completed fill (R153) -/

theorem State.completeFill_eq (s : State) {f g : Fill} (hkey : g.key = f.key) (hrequest : g.request = f.request) :
    s.completeFill g =
      ((s.onCache (·.putLine f.key g.line)).serveStart f g.line).pushBuffered.endFill.answerStart f
        (fun _ => .served g.words [0, 1, 2, 3]) 0#24 := by
  obtain ⟨_, _, _, _, _, _⟩ := g
  subst hkey hrequest
  unfold State.completeFill State.serveStart State.answerStart
  cases f.request <;> rfl

/-! ## An abandoned fill (R155) -/

/-- The DIRTY victim stands in the fill's way again, and MEMORY_FAULT is latched. -/
def State.restoreVictim (s : State) (key : Nat) : State :=
  { s with
    host := { s.host with attention := s.host.attention ||| 0x010#9 }
    cache := { s.cache with
      lines := s.cache.pushBuffer.elim s.cache.lines fun l => assocPut key l s.cache.lines
      pushBuffer := none } }

theorem State.abandonComplete_eq (s : State) {f g : Fill} (hkey : g.key = f.key) (hrequest : g.request = f.request) :
    s.abandonComplete g =
      (s.restoreVictim f.key).endFill.answerStart f g.lastAnswer (identArrived g.words g.quarters) := by
  have hrestore : ((match s.cache.pushBuffer with
      | none => s
      | some l => s.onCache fun c => { (c.putLine f.key l) with pushBuffer := none }).latch .memoryFault) =
      s.restoreVictim f.key := by
    obtain ⟨_, _, _, _, _, _, _, _, _, _, _, _, _ | l, _⟩ := s <;> rfl
  rw [← hrestore]
  obtain ⟨_, _, _, _, _, _⟩ := g
  subst hkey hrequest
  unfold State.abandonComplete State.answerStart
  cases f.request <;> rfl

/-- Before a fault the quarters arrive in the order of the reading. -/
theorem State.mem_readOn_quarters {s : State} {f : Fill} (hfirst : f.first < 4) (hlen : (s.readOn f).arrived.length < 4)
    (q : Nat) :
    q ∈ (s.readOn f).quarters ↔
      ∃ k, k < 4 ∧ (f.first + k) % 4 = q ∧ ∀ i, i ≤ k → ∀ m, m < 4 → ¬ s.fillFaults f (4 * ((f.first + i) % 4) + m) := by
  have hat : (s.readOn f).quarterAt = f.quarterAt := by
    funext k
    rw [Fill.quarterAt, State.readOn_first hfirst, Fill.quarterAt]
  have hreached : ∀ k, k < 4 → (k < (s.readOn f).arrived.length ↔
      ∀ i, i ≤ k → ∀ m, m < 4 → ¬ s.fillFaults f (4 * f.quarterAt i + m)) := fun k hk =>
    (s.lt_readOn_iff f hk).trans (forall₂_congr fun i hi => State.readsAt_iff hfirst (by omega))
  rw [Fill.quarters, hat, List.mem_map]
  constructor
  · rintro ⟨k, hk, rfl⟩
    rw [List.mem_range] at hk
    exact ⟨k, by omega, rfl, (hreached k (by omega)).mp hk⟩
  · rintro ⟨k, hk, rfl, hreads⟩
    exact ⟨k, List.mem_range.mpr ((hreached k hk).mpr hreads), rfl⟩

/-- A word of a quarter that has arrived stands in the line read buffer. -/
theorem State.readOn_words_of_mem {s : State} {f : Fill} (hfirst : f.first < 4) (hlen : (s.readOn f).arrived.length < 4)
    {q m : Nat} (hq : q ∈ (s.readOn f).quarters) (hm : m < 4) :
    (s.readOn f).words.getD (4 * q + m) 0#32 = s.fillWord f (4 * q + m) := by
  obtain ⟨k, hk, rfl⟩ := List.mem_map.mp hq
  rw [List.mem_range] at hk
  have hat : (s.readOn f).quarterAt k = f.quarterAt k := by rw [Fill.quarterAt, State.readOn_first hfirst, Fill.quarterAt]
  have hquarter : f.quarterAt k < 4 := Nat.mod_lt _ (by omega)
  rw [hat]
  exact State.readOn_words hfirst (by omega) (by rwa [Fill.placeOf_quarterAt hfirst (by omega) hm])

theorem Fill.lastAnswer_of_read {f : Fill} {r : Request} {qs : List Nat} (hop : r.op = .read qs)
    (hall : ∀ q ∈ qs, q ∈ f.quarters) : f.lastAnswer r = .served f.words f.quarters :=
  if_pos (by simpa [hop, CacheOp.isRead, CacheOp.quarters] using hall)

theorem Fill.lastAnswer_of_other {f : Fill} {r : Request} (h : ∀ qs, r.op = .read qs → ∃ q ∈ qs, q ∉ f.quarters) :
    f.lastAnswer r = .fault := by
  refine if_neg ?_
  cases hop : r.op with
  | read qs => simpa [CacheOp.isRead, CacheOp.quarters] using h qs hop
  | write words => simp [CacheOp.isRead]
  | update words => simp [CacheOp.isRead]
  | countMiss => simp [CacheOp.isRead]

theorem exec_fillInstall_of_complete {s : State} {f : Fill} (hfill : s.cache.fill = some f)
    (hcomplete : (s.readOn f).complete = true) : exec .fillInstall s = .next (s.completeFill (s.readOn f)) := by
  have hexec : exec .fillInstall s = .next s.installFill := rfl
  simp [hexec, State.installFill, hfill, hcomplete]

theorem exec_fillAbandon_of_faulty {s : State} {f : Fill} (hfill : s.cache.fill = some f)
    (hlen : (s.readOn f).arrived.length < 4) : exec .fillAbandon s = .next (s.abandonComplete (s.readOn f)) := by
  have hexec : exec .fillAbandon s = .next s.abandonFill := rfl
  have hopen : ¬ (s.readOn f).complete = true := by
    rw [Fill.complete, decide_eq_true_iff]
    omega
  simp [hexec, State.abandonFill, hfill, hopen]

end Sys2Proof.Machine

namespace Sys2Proof.DirectoryCache
open Sys2Proof.Machine

/-- Settles O46: the record read is installed and served on, the buffered record is pushed, and the fill ends. -/
theorem fillsInstallAndPush : Obligations.FillsInstallAndPush := by
  intro s f hfill hfirst hgood hload hwf hd line installed served
  obtain ⟨hcomplete, hwords⟩ := State.readOn_complete hfirst hgood
  obtain ⟨hframe, -⟩ := State.readOn_spec (s := s) hfirst
  have hline : (s.readOn f).line = line := by rw [Fill.line, hwords, hframe]
  have hserved : served = installed.serveStart f line := rfl
  have hkeeps := installed.serveStart_frame f line
  rw [← hserved] at hkeeps
  have hwfServed : served.ram.wf = true := State.wf_serveStart (s := installed) hwf f line
  refine ⟨served.pushBuffered.fillOver, served.pushBuffered.endFill, ?held, ?answer, ?frame, fun hnone => ?noPush,
    fun l hl => ?push⟩
  case held =>
    have hheld : served.pushBuffered.host.held = s.host.held := by rw [State.pushBuffered_frame, hkeeps]
    rw [← hheld]
    refine State.endFill_answersHeld ?_
    rw [State.pushBuffered_frame, hkeeps]
    exact hload
  case answer =>
    rw [exec_fillInstall_of_complete hfill hcomplete,
      State.completeFill_eq s (f := f) (by rw [hframe]) (by rw [hframe]), hline, hwords]
    rfl
  case frame =>
    unfold State.fillOver
    rw [State.pushBuffered_frame, hkeeps]
  case noPush => exact State.pushBuffered_ram_of_none (by rw [hkeeps]; exact hnone)
  case push =>
    have hbuffer : served.cache.pushBuffer = some l := by
      rw [hkeeps]
      exact hl
    rw [State.fillOver, State.pushBuffered_ram_of_some hbuffer]
    refine State.pushRecord_pushes hwfServed ?_ l
    rw [hkeeps]
    exact hd

/-- Settles O47: the reading stops at the faulty word, the victim is restored, and the fill ends with what has arrived. -/
theorem abandonedFillsRestoreTheVictim : Obligations.AbandonedFillsRestoreTheVictim := by
  rintro s f hfill hfirst ⟨j, hj, hfault⟩ hload v reads arrived
  have hlen := State.readOn_not_complete hfirst hj hfault
  obtain ⟨hframe, -⟩ := State.readOn_spec (s := s) hfirst
  have hmem : ∀ q, q ∈ (s.readOn f).quarters ↔ arrived q := State.mem_readOn_quarters hfirst hlen
  have hexec := exec_fillAbandon_of_faulty hfill hlen
  rw [State.abandonComplete_eq s (f := f) (by rw [hframe]) (by rw [hframe])] at hexec
  have hover : (s.restoreVictim f.key).fillOver = v := by
    simp only [State.fillOver, State.restoreVictim, v]
    cases s.cache.pushBuffer <;> rfl
  refine ⟨(s.restoreVictim f.key).endFill, identArrived (s.readOn f).words (s.readOn f).quarters, ?held, fun hzero => ?ident,
    fun hzero => ?noIdent, fun hnone => ?withdrawn, fun r hr => ⟨fun qs hop hall => ?served, fun hmissing => ?fault⟩⟩
  case held =>
    rw [← hover]
    exact State.endFill_answersHeld (s := s.restoreVictim f.key) hload
  case ident =>
    have hword := State.readOn_words_of_mem hfirst hlen ((hmem 0).mpr hzero) (m := 0) (by omega)
    rw [identArrived, if_pos (by simpa using (hmem 0).mpr hzero), recordIdent, recordWord, ← hword]
  case noIdent => exact if_neg (by simpa using mt (hmem 0).mp hzero)
  case withdrawn => simp only [hexec, State.answerStart, hnone]
  case served =>
    refine ⟨(s.readOn f).words, (s.readOn f).quarters, ?_, hmem, fun q m hq hm =>
      State.readOn_words_of_mem hfirst hlen ((hmem q).mpr hq) hm⟩
    have hanswer := Fill.lastAnswer_of_read hop fun q hq => (hmem q).mpr (hall q hq)
    simp only [hexec, State.answerStart, hr, hanswer]
  case fault =>
    have hanswer : (s.readOn f).lastAnswer r = .fault := Fill.lastAnswer_of_other fun qs hop => by
      obtain ⟨q, hq, hnot⟩ := hmissing qs hop
      exact ⟨q, hq, mt (hmem q).mp hnot⟩
    simp only [hexec, State.answerStart, hr, hanswer]

end Sys2Proof.DirectoryCache
end

section
/-! What every act of the part keeps, but for a write of ATTENTION and a power-on: the queue, each latched cause, and
the canonical form of the RAM (R171, R176, R186; log 1). Each act's lemma goes through the acts it is made of. -/

namespace Sys2Proof.Machine

/-! ## What is kept -/

/-- The queue stands in `t` as in `s`, every cause latched in `s` is latched in `t`, and a canonical RAM stays
canonical. -/
structure State.KeptBy (s t : State) : Prop where
  queue : t.pending = s.pending
  causes : s.host.attention &&& t.host.attention = s.host.attention
  canonical : s.ram.wf = true → t.ram.wf = true

section Acts
variable {s₀ s t : State}

theorem State.KeptBy.refl (s : State) : s.KeptBy s := ⟨rfl, BitVec.and_self, id⟩

/-- An act that leaves queue, causes and RAM alone. -/
theorem State.KeptBy.of_same (h : s₀.KeptBy s) (hqueue : t.pending = s.pending)
    (hcauses : t.host.attention = s.host.attention) (hram : t.ram = s.ram) : s₀.KeptBy t :=
  ⟨hqueue.trans h.queue, by rw [hcauses, h.causes], fun hwf => by rw [hram]; exact h.canonical hwf⟩

theorem State.KeptBy.ite {c : Prop} {_ : Decidable c} (hs : s₀.KeptBy s) (ht : s₀.KeptBy t) :
    s₀.KeptBy (if c then s else t) := by split <;> assumption

/-- An act made on a condition, else none. -/
theorem State.KeptBy.when {c : Prop} {_ : Decidable c} (h : s₀.KeptBy s) (hact : s₀.KeptBy s → s₀.KeptBy t) :
    s₀.KeptBy (if c then t else s) := (hact h).ite h

/-- A run of acts that each keep it. -/
theorem State.KeptBy.foldl (h : s₀.KeptBy s) {α : Type} {f : State → α → State}
    (hf : ∀ {s : State} (a : α), s₀.KeptBy s → s₀.KeptBy (f s a)) (l : List α) : s₀.KeptBy (l.foldl f s) := by
  induction l generalizing s with
  | nil => exact h
  | cons a rest ih => exact ih (hf a h)

/-! ## Updates of the blocks -/

theorem State.KeptBy.onHost (h : s₀.KeptBy s) {f : HostLink → HostLink}
    (hf : ∀ x, (f x).attention = x.attention := by exact fun _ => rfl) : s₀.KeptBy (s.onHost f) :=
  h.of_same rfl (hf s.host) rfl

theorem State.KeptBy.onRam (h : s₀.KeptBy s) {f : Ram → Ram} (hf : ∀ m : Ram, m.wf = true → (f m).wf = true) :
    s₀.KeptBy (s.onRam f) := ⟨h.queue, h.causes, fun hwf => hf _ (h.canonical hwf)⟩

theorem State.KeptBy.onTime (h : s₀.KeptBy s) (f : Timebase → Timebase) : s₀.KeptBy (s.onTime f) :=
  h.of_same rfl rfl rfl
theorem State.KeptBy.onUnit (h : s₀.KeptBy s) (f : TicketUnit → TicketUnit) : s₀.KeptBy (s.onUnit f) :=
  h.of_same rfl rfl rfl
theorem State.KeptBy.onRoster (h : s₀.KeptBy s) (f : Roster → Roster) : s₀.KeptBy (s.onRoster f) :=
  h.of_same rfl rfl rfl
theorem State.KeptBy.onAir (h : s₀.KeptBy s) (f : AirLink → AirLink) : s₀.KeptBy (s.onAir f) := h.of_same rfl rfl rfl
theorem State.KeptBy.onCache (h : s₀.KeptBy s) (f : Cache → Cache) : s₀.KeptBy (s.onCache f) := h.of_same rfl rfl rfl
theorem State.KeptBy.withWalk (h : s₀.KeptBy s) (w : Option Walk) : s₀.KeptBy (s.withWalk w) := h.of_same rfl rfl rfl
theorem State.KeptBy.withLoad (h : s₀.KeptBy s) (l : Option Load) : s₀.KeptBy (s.withLoad l) := h.of_same rfl rfl rfl
theorem State.KeptBy.withLoader (h : s₀.KeptBy s) (p : LoaderPhase) : s₀.KeptBy (s.withLoader p) :=
  h.of_same rfl rfl rfl

theorem State.KeptBy.latch (h : s₀.KeptBy s) (c : Cause) : s₀.KeptBy (s.latch c) where
  queue := h.queue
  causes := by rw [State.latch_attention, BitVec.and_or_distrib_left, h.causes]; ext; simp +contextual
  canonical := h.canonical

theorem State.KeptBy.latchIf (h : s₀.KeptBy s) (b : Bool) (c : Cause) : s₀.KeptBy (s.latchIf b c) := (h.latch c).ite h

/-! ## Named updates -/

theorem State.KeptBy.putWord (h : s₀.KeptBy s) (a : Nat) (w : Word) : s₀.KeptBy (s.putWord a w) :=
  h.onRam fun _ hwf => Ram.wf_setWord hwf a w
theorem State.KeptBy.setWords (h : s₀.KeptBy s) (a : Nat) (ws : List Word) : s₀.KeptBy (s.onRam (·.setWords a ws)) :=
  h.onRam fun _ hwf => Ram.wf_setWords hwf a ws
theorem State.KeptBy.putTicketWord (h : s₀.KeptBy s) (n off : Nat) (w : Word) : s₀.KeptBy (s.putTicketWord n off w) :=
  h.putWord _ w
theorem State.KeptBy.setTicket (h : s₀.KeptBy s) (n : Nat) (k : Ticket) : s₀.KeptBy (s.setTicket n k) := h.onUnit _
theorem State.KeptBy.dropTicket (h : s₀.KeptBy s) (n : Nat) : s₀.KeptBy (s.dropTicket n) := h.onUnit _
theorem State.KeptBy.finishCommand (h : s₀.KeptBy s) (r : CommandResult) : s₀.KeptBy (s.finishCommand r) := h.onHost
theorem State.KeptBy.beginCommand (h : s₀.KeptBy s) (c : ActiveCommand) : s₀.KeptBy (s.beginCommand c) := h.onHost
theorem State.KeptBy.giveResult (h : s₀.KeptBy s) (r : CommandResult) : s₀.KeptBy (s.giveResult r) := h.onHost
theorem State.KeptBy.nameCommand (h : s₀.KeptBy s) (code : BitVec 4) : s₀.KeptBy (s.nameCommand code) := h.onHost
theorem State.KeptBy.refuse (h : s₀.KeptBy s) (code : BitVec 4) (r : CommandResult) : s₀.KeptBy (s.refuse code r) :=
  (h.nameCommand code).giveResult r
theorem State.KeptBy.changeEntry (h : s₀.KeptBy s) (i : Nat) (f : Entry → Entry) : s₀.KeptBy (s.changeEntry i f) :=
  h.onRoster _
theorem State.KeptBy.removeEntry (h : s₀.KeptBy s) (i : Nat) : s₀.KeptBy (s.removeEntry i) := h.onRoster _
theorem State.KeptBy.joinEntry (h : s₀.KeptBy s) (e : Entry) : s₀.KeptBy (s.joinEntry e) := h.onRoster _
theorem State.KeptBy.awaitRemovals (h : s₀.KeptBy s) (n : Nat) : s₀.KeptBy (s.awaitRemovals n) := h.onRoster _
theorem State.KeptBy.openDecision (h : s₀.KeptBy s) (i : Nat) (d : Decision) : s₀.KeptBy (s.openDecision i d) :=
  h.changeEntry i _
theorem State.KeptBy.openNewEntry (h : s₀.KeptBy s) (n : NewEntry) : s₀.KeptBy (s.openNewEntry n) := h.onRoster _
theorem State.KeptBy.changeWalk (h : s₀.KeptBy s) (f : Walk → Walk) : s₀.KeptBy (s.changeWalk f) := h.withWalk _
theorem State.KeptBy.reportRoom (h : s₀.KeptBy s) : s₀.KeptBy s.reportRoom := h.changeWalk _
theorem State.KeptBy.reportTurnEnd (h : s₀.KeptBy s) (i : Nat) : s₀.KeptBy (s.reportTurnEnd i) := h.changeWalk _
theorem State.KeptBy.askAir (h : s₀.KeptBy s) (r : Request) : s₀.KeptBy (s.askAir r) := h.onCache _
theorem State.KeptBy.askDelivery (h : s₀.KeptBy s) (i : Nat) (d : DeliveryState) : s₀.KeptBy (s.askDelivery i d) :=
  h.onCache _
theorem State.KeptBy.setStage (h : s₀.KeptBy s) (g : AirStage) : s₀.KeptBy (s.setStage g) := h.onAir _
theorem State.KeptBy.keyFrame (h : s₀.KeptBy s) (frame : List Byte) : s₀.KeptBy (s.keyFrame frame) := h.onAir _
theorem State.KeptBy.closeTurn (h : s₀.KeptBy s) (n : Nat) : s₀.KeptBy (s.closeTurn n) := h.onAir _
theorem State.KeptBy.turnRead (h : s₀.KeptBy s) (n : Nat) (c : TurnContent) : s₀.KeptBy (s.turnRead n c) := h.onAir _
theorem State.KeptBy.dropAwaitedTurns (h : s₀.KeptBy s) : s₀.KeptBy s.dropAwaitedTurns := (h.onAir _).onCache _
theorem State.KeptBy.refreshRush (h : s₀.KeptBy s) : s₀.KeptBy s.refreshRush := h.onTime _
theorem State.KeptBy.startSweep (h : s₀.KeptBy s) : s₀.KeptBy s.startSweep := h.onUnit _

/-! ## Tickets and their reports -/

theorem State.KeptBy.changeTicket (h : s₀.KeptBy s) (n : Nat) (f : Ticket → Ticket) :
    s₀.KeptBy (s.changeTicket n f) := by
  unfold State.changeTicket
  split
  · exact h
  · exact h.setTicket n _

theorem State.KeptBy.countTally (h : s₀.KeptBy s) (n : Nat) (k : Tally) : s₀.KeptBy (s.countTally n k) := by
  unfold State.countTally
  split
  · exact h
  · exact (h.setTicket n _).putTicketWord n _ _

theorem State.KeptBy.putTallies (h : s₀.KeptBy s) (n : Nat) (k : Ticket) : s₀.KeptBy (s.putTallies n k) :=
  h.foldl (fun _ h => h.putTicketWord n _ _) _

theorem State.KeptBy.putSettlement (h : s₀.KeptBy s) (n : Nat) (o : TicketOutcome) (r : Reason) (stop : Option Nat) :
    s₀.KeptBy (s.putSettlement n o r stop) :=
  (((h.putTicketWord n _ _).putTicketWord n _ _).putTicketWord n _ _).latch _

theorem State.KeptBy.zeroTallies (h : s₀.KeptBy s) (n : Nat) : s₀.KeptBy (s.zeroTallies n) :=
  ((h.foldl (fun _ h => h.putTicketWord n _ _) _).putTicketWord n _ _).putTicketWord n _ _

theorem State.KeptBy.settleUnheld (h : s₀.KeptBy s) (n : Nat) (o : TicketOutcome) (r : Reason) :
    s₀.KeptBy (s.settleUnheld n o r) := (h.zeroTallies n).putSettlement n o r none

theorem State.KeptBy.settle (h : s₀.KeptBy s) (n : Nat) : s₀.KeptBy (s.settle n) := by
  unfold State.settle
  split
  · exact h
  · exact (((h.putTallies n _).putTicketWord n _ _).putSettlement n _ _ _).dropTicket n

theorem State.KeptBy.settleIfDone (h : s₀.KeptBy s) (n : Nat) : s₀.KeptBy (s.settleIfDone n) := by
  unfold State.settleIfDone
  split
  · exact h
  · exact (h.settle n).ite h

theorem State.KeptBy.writeException (h : s₀.KeptBy s) (n : Nat) (e : ExceptionEntry) :
    s₀.KeptBy (s.writeException n e) := by
  unfold State.writeException
  split
  · exact h
  · exact (((h.setWords _ _).setTicket n _).putTicketWord n _ _).ite ((h.setTicket n _).putTicketWord n _ _)

theorem State.KeptBy.writeExceptionOf (h : s₀.KeptBy s) (n : Nat) (e : Option ExceptionEntry) :
    s₀.KeptBy (s.writeExceptionOf n e) := by
  cases e with
  | none => exact h
  | some e => exact h.writeException n e

theorem State.KeptBy.reportWork (h : s₀.KeptBy s) (n : Nat) (k : Tally) (e : Option ExceptionEntry) :
    s₀.KeptBy (s.reportWork n k e) := (h.writeExceptionOf n e).countTally n k

theorem State.KeptBy.reportDelivery (h : s₀.KeptBy s) (n : Nat) (k : Tally) (e : Option ExceptionEntry) :
    s₀.KeptBy (s.reportDelivery n k e) := ((h.writeExceptionOf n e).countTally n k).settleIfDone n

/-! ## The Roster -/

theorem State.KeptBy.rejoinEntry (h : s₀.KeptBy s) (i : Nat) : s₀.KeptBy (s.rejoinEntry i) := by
  unfold State.rejoinEntry
  split
  · exact h
  · exact (h.removeEntry i).joinEntry _

theorem State.KeptBy.finishCancel (h : s₀.KeptBy s) : s₀.KeptBy s.finishCancel := by
  unfold State.finishCancel
  split
  · exact h.ite (h.finishCommand _)
  · exact h

theorem State.KeptBy.closeEntry (h : s₀.KeptBy s) (e : Entry) (c : Closing) : s₀.KeptBy (s.closeEntry e c) :=
  ((((h.reportDelivery e.owner c.tally _).removeEntry _).reportRoom).reportTurnEnd _).finishCancel

theorem State.KeptBy.beginRemoval (h : s₀.KeptBy s) (i : Nat) (c : Closing) : s₀.KeptBy (s.beginRemoval i c) :=
  (h.changeEntry i _).askDelivery i _

theorem State.KeptBy.expireEntry (h : s₀.KeptBy s) (i : Nat) : s₀.KeptBy (s.expireEntry i) := by
  unfold State.expireEntry
  split
  · exact h
  · refine h.ite ((h.changeEntry i _).ite ?_)
    split <;> exact h.beginRemoval i _

theorem State.KeptBy.cancelEntry (h : s₀.KeptBy s) (i : Nat) : s₀.KeptBy (s.cancelEntry i) := by
  unfold State.cancelEntry
  split
  · exact h
  · refine h.ite ((h.changeEntry i _).ite ?_)
    split
    · exact h.beginRemoval i _
    · exact h.changeEntry i _
    · exact (h.beginRemoval i _).ite (h.changeEntry i _)
    · exact h

theorem State.KeptBy.expireEntries (h : s₀.KeptBy s) (n : Nat) : s₀.KeptBy (s.expireEntries n) :=
  h.foldl (fun i h => h.expireEntry i) _

theorem State.KeptBy.cancelEntries (h : s₀.KeptBy s) (n : Nat) : s₀.KeptBy (s.cancelEntries n) :=
  (h.foldl (fun i h => h.cancelEntry i) _).awaitRemovals n

theorem State.KeptBy.deferredActions (h : s₀.KeptBy s) (i : Nat) : s₀.KeptBy (s.deferredActions i) := by
  unfold State.deferredActions
  split
  · exact h
  · exact ((h.changeEntry i _).when (·.cancelEntry i)).when (·.expireEntry i)

theorem State.KeptBy.completeSupersede (h : s₀.KeptBy s) (e : Entry) (d : Decision) :
    s₀.KeptBy (s.completeSupersede e d) :=
  have hchange := h.changeEntry e.index fun e => e.superseded d
  (((hchange.ite (hchange.rejoinEntry _).reportRoom).reportDelivery _ _ _).reportDelivery _ _ _).reportTurnEnd _

theorem State.KeptBy.completeDecision (h : s₀.KeptBy s) (i : Nat) : s₀.KeptBy (s.completeDecision i) := by
  unfold State.completeDecision
  split
  · exact ((h.onRoster _).joinEntry _).reportDelivery _ _ _
  · split
    · exact h
    · split
      · exact h
      · exact (((h.changeEntry _ _).reportTurnEnd _).deferredActions _).ite (h.completeSupersede _ _)

theorem State.KeptBy.dropDecision (h : s₀.KeptBy s) (i : Nat) : s₀.KeptBy (s.dropDecision i) := by
  unfold State.dropDecision
  split
  · exact h.onRoster _
  · exact ((h.changeEntry i _).reportTurnEnd i).deferredActions i

theorem State.KeptBy.returnEntry (h : s₀.KeptBy s) (i : Nat) : s₀.KeptBy (s.returnEntry i) := by
  unfold State.returnEntry
  split
  · exact h
  · exact (((h.changeEntry i _).reportTurnEnd i).deferredActions i).ite h

theorem State.KeptBy.returnEntries (h : s₀.KeptBy s) (slot : Nat) : s₀.KeptBy (s.returnEntries slot) :=
  h.foldl (fun i h => h.returnEntry i) _

theorem State.KeptBy.reportReply (h : s₀.KeptBy s) (i : Nat) (r : Reply) : s₀.KeptBy (s.reportReply i r) := by
  unfold State.reportReply
  split
  · exact h
  · exact ((h.changeEntry i _).askAir _).ite h

theorem State.KeptBy.reportSilence (h : s₀.KeptBy s) (i : Nat) : s₀.KeptBy (s.reportSilence i) := by
  unfold State.reportSilence
  split
  · exact h
  · exact ((h.changeEntry i _).askAir _).ite h

theorem State.KeptBy.endTurn (h : s₀.KeptBy s) (i : Nat) : s₀.KeptBy (s.endTurn i) := by
  unfold State.endTurn
  split
  · exact h
  · split
    · exact h.closeEntry _ _
    · exact ((h.changeEntry i _).reportTurnEnd i).deferredActions i

theorem State.KeptBy.writeBackDelivery (h : s₀.KeptBy s) (i : Nat) : s₀.KeptBy (s.writeBackDelivery i) := by
  unfold State.writeBackDelivery
  split
  · exact h
  · split
    · exact h.askDelivery i _
    · exact h.endTurn i

theorem State.KeptBy.statusWritten (h : s₀.KeptBy s) (i : Nat) : s₀.KeptBy (s.statusWritten i) := by
  unfold State.statusWritten
  split
  · exact h
  · exact (h.askAir _).ite (h.writeBackDelivery i)

theorem State.KeptBy.confirmRead (h : s₀.KeptBy s) (i : Nat) (ws : List Word) (known : Bool) :
    s₀.KeptBy (s.confirmRead i ws known) := by
  unfold State.confirmRead
  split
  · exact h
  · exact (h.endTurn i).ite (h.askAir _)

theorem State.KeptBy.deliveryWritten (h : s₀.KeptBy s) (i : Nat) : s₀.KeptBy (s.deliveryWritten i) := by
  unfold State.deliveryWritten
  split
  · exact h
  · split
    · exact h.endTurn i
    · split
      · exact h.closeEntry _ _
      · exact h

/-! ## The end of a walk and the arbiter -/

theorem State.KeptBy.endTicketWalk (h : s₀.KeptBy s) (n : Nat) (o : TicketOutcome) (r : Reason) (stop : Option Nat) :
    s₀.KeptBy (s.endTicketWalk n o r stop) := by
  unfold State.endTicketWalk
  split
  · exact h
  · have htallies := fun k => (h.setTicket n k).putTallies n k
    exact ((htallies _).settle n).finishCancel.ite
      ((((htallies _).putTicketWord n _ _).when (·.cancelEntries n)).when (·.expireEntries n)).finishCancel

theorem State.KeptBy.takeWalk (h : s₀.KeptBy s) (n : Nat) (w : Walk) : s₀.KeptBy (s.takeWalk n w) :=
  ((h.changeTicket n _).putTicketWord n _ _).withWalk _

theorem State.KeptBy.startWalk (h : s₀.KeptBy s) (n : Nat) (k : Ticket) : s₀.KeptBy (s.startWalk n k) :=
  (((h.takeWalk n _).withWalk none).endTicketWalk n _ _ _).ite (h.takeWalk n _)

theorem State.KeptBy.resumeWalk (h : s₀.KeptBy s) (n : Nat) : s₀.KeptBy (s.resumeWalk n) :=
  ((h.latch _).endTicketWalk n _ _ _).ite (h.takeWalk n _)

theorem State.KeptBy.arbitrateUpTo (h : s₀.KeptBy s) (rounds : Nat) : s₀.KeptBy (s.arbitrateUpTo rounds) := by
  induction rounds generalizing s with
  | zero => exact h
  | succ rounds ih =>
    unfold State.arbitrateUpTo
    refine h.ite ?_
    split
    · exact h
    · exact ih ((h.resumeWalk _).ite (h.startWalk _ _))

theorem State.KeptBy.arbitrate (h : s₀.KeptBy s) : s₀.KeptBy s.arbitrate := h.arbitrateUpTo 33

theorem State.KeptBy.endWalk (h : s₀.KeptBy s) (o : TicketOutcome) (r : Reason) (stop : Option Nat) :
    s₀.KeptBy (s.endWalk o r stop) := by
  unfold State.endWalk
  split
  · exact h
  · exact ((h.withWalk none).endTicketWalk _ o r stop).arbitrate

theorem State.KeptBy.endWalkAtCard (h : s₀.KeptBy s) (o : TicketOutcome) (r : Reason) (stop : Option Nat) :
    s₀.KeptBy (s.endWalkAtCard o r stop) := by
  unfold State.endWalkAtCard
  split
  · exact h
  · split
    · exact h.endWalk _ _ _
    · exact h.endWalk o r stop

theorem State.KeptBy.park (h : s₀.KeptBy s) : s₀.KeptBy s.park := by
  unfold State.park
  split
  · exact h
  · split
    · exact h
    · exact (((((h.setWords _ _).putTallies _ _).putTicketWord _ _ _).setTicket _ _).withWalk none).arbitrate

theorem State.KeptBy.cardBoundary (h : s₀.KeptBy s) : s₀.KeptBy s.cardBoundary := by
  unfold State.cardBoundary
  split
  · exact h
  · split
    · exact h.endWalk _ _ _
    · exact (h.park.ite (h.changeWalk _)).ite h

/-! ## The walker -/

theorem State.KeptBy.goTo (h : s₀.KeptBy s) (p : Option Position) : s₀.KeptBy (s.goTo p) := by
  cases p with
  | none => exact h.endWalkAtCard _ _ _
  | some p => exact (h.changeWalk _).cardBoundary

theorem State.KeptBy.completeCard (h : s₀.KeptBy s) (c : Card) : s₀.KeptBy (s.completeCard c) := by
  unfold State.completeCard
  split
  · exact h
  · exact h.goTo _

theorem State.KeptBy.refuseCard (h : s₀.KeptBy s) (c : Card) (number : Nat) (k : ExceptionKind) (i : Nat)
    (ident : BitVec 24) : s₀.KeptBy (s.refuseCard c number k i ident) := (h.reportWork _ _ _).completeCard c

theorem State.KeptBy.roomStall (h : s₀.KeptBy s) (app : Application) : s₀.KeptBy (s.roomStall app) := by
  unfold State.roomStall
  split
  · exact h
  · split
    · exact h.endWalk _ _ _
    · exact (h.changeWalk _).park.ite (((h.changeWalk _).changeWalk _).ite (h.changeWalk _))

theorem State.KeptBy.turnStall (h : s₀.KeptBy s) (app : Application) : s₀.KeptBy (s.turnStall app) := by
  unfold State.turnStall
  split
  · exact h
  · split
    · exact h.endWalk _ _ _
    · exact h.changeWalk _

theorem State.KeptBy.unlessEnding (h : s₀.KeptBy s) (hnext : s₀.KeptBy t) : s₀.KeptBy (s.unlessEnding t) := by
  unfold State.unlessEnding
  split
  · exact hnext
  · split
    · exact h.endWalk _ _ _
    · exact hnext

theorem State.KeptBy.requestRecord (h : s₀.KeptBy s) (app : Application) : s₀.KeptBy (s.requestRecord app) :=
  (h.changeWalk _).onCache _

theorem State.KeptBy.openApplication (h : s₀.KeptBy s) (c : Card) (number i : Nat) :
    s₀.KeptBy (s.openApplication c number i) := by
  unfold State.openApplication
  dsimp only
  split
  · exact h.turnStall _
  · exact h.requestRecord _
  · exact h.requestRecord _

theorem State.KeptBy.stageImage (h : s₀.KeptBy s) (app : Application) (k : Ticket) (ws : List Word) (im : Image)
    (clamped : Bool) (raw : Int) (version : BitVec 16) : s₀.KeptBy (s.stageImage app k ws im clamped raw version) := by
  unfold State.stageImage
  exact (((h.openDecision _ _).ite (h.openNewEntry _)).changeWalk _).onCache _

theorem State.KeptBy.enterChange (h : s₀.KeptBy s) (app : Application) (k : Ticket) (ws : List Word) (im : Image)
    (clamped : Bool) (raw : Int) : s₀.KeptBy (s.enterChange app k ws im clamped raw) := by
  unfold State.enterChange
  split
  · exact h.turnStall app
  · exact h.openApplication _ _ _
  · exact h.roomStall app
  · exact h.stageImage app k ws im clamped raw _

theorem State.KeptBy.recordArrived (h : s₀.KeptBy s) (app : Application) (ws : List Word) :
    s₀.KeptBy (s.recordArrived app ws) := by
  unfold State.recordArrived
  dsimp only
  split
  · refine (h.refuseCard _ _ _ _ _).ite ?_
    split
    · exact h.refuseCard _ _ _ _ _
    · exact (h.reportWork _ _ _).completeCard _
    · exact (h.reportWork _ _ _).completeCard _
    · exact h.enterChange app _ ws _ _ _
  · exact h

theorem State.KeptBy.applicationFaulted (h : s₀.KeptBy s) (app : Application) (ident : BitVec 24) :
    s₀.KeptBy (s.applicationFaulted app ident) := (h.reportWork _ _ _).completeCard _

theorem State.KeptBy.imageStaged (h : s₀.KeptBy s) (app : Application) (st : Staging) :
    s₀.KeptBy (s.imageStaged app st) :=
  ((h.completeDecision _).reportWork _ _ _).completeCard _

theorem State.KeptBy.imageFaulted (h : s₀.KeptBy s) (app : Application) (st : Staging) :
    s₀.KeptBy (s.imageFaulted app st) := (h.dropDecision _).applicationFaulted app _

theorem State.KeptBy.includeCard (h : s₀.KeptBy s) (w : Walk) (k : Ticket) (c : Card) (number : Nat) :
    s₀.KeptBy (s.includeCard w k c number) := by
  unfold State.includeCard
  refine (h.endWalkAtCard _ _ _).ite ?_
  split
  · exact h.completeCard c
  · exact h.endWalkAtCard _ _ _
  · exact h.goTo _

theorem State.KeptBy.actByKind (h : s₀.KeptBy s) (w : Walk) (k : Ticket) (c : Card) (number : Nat) (kind : CardKind) :
    s₀.KeptBy (s.actByKind w k c number kind) := by
  match kind with
  | .price | .adjustPercent | .adjustAmount | .badge =>
    exact h.unlessEnding ((h.refuseCard _ _ _ _ _).ite (h.openApplication _ _ _))
  | .span => exact h.goTo (some _)
  | .include => exact h.includeCard w k c number
  | .mark => exact ((h.changeTicket _ _).putTicketWord _ _ _).completeCard c
  | .chainEnd => exact h.goTo _

theorem State.KeptBy.actOnCard (h : s₀.KeptBy s) (c : Card) (number : Nat) : s₀.KeptBy (s.actOnCard c number) := by
  unfold State.actOnCard
  split
  · split
    · exact h.refuseCard _ _ _ _ _
    · exact (h.refuseCard _ _ _ _ _).ite ((h.refuseCard _ _ _ _ _).ite
        ((h.refuseCard _ _ _ _ _).ite (h.actByKind _ _ c number _)))
  · exact h

theorem State.KeptBy.recordExit (h : s₀.KeptBy s) (c : Card) : s₀.KeptBy (s.recordExit c) := h.changeWalk _

/-- The read of a card, whatever it comes to. -/
theorem State.KeptBy.fetchCard (h : s₀.KeptBy s) (l : Link) (counted : Bool) :
    s₀.KeptBy ((s.fetchCard l counted).stateOr s) := by
  unfold State.fetchCard
  split
  · exact h
  · split
    · exact h
    · exact h.endWalkAtCard _ _ _
    · simp only [CardFetch.stateOr_ite]
      have hcounted : s₀.KeptBy (if counted then s.countTally s.walkSlot .cardsRead else s) := h.when (·.countTally _ _)
      have hread := hcounted.changeTicket
      exact (h.endWalkAtCard _ _ _).ite ((((hread _ _).latch _).endWalkAtCard _ _ _).ite (hread _ _))

theorem State.KeptBy.stepCard (h : s₀.KeptBy s) : s₀.KeptBy s.stepCard := by
  unfold State.stepCard
  split
  · exact h
  next w _ =>
    have hfetch := h.fetchCard w.link (w.next == .nextCard)
    refine h.ite ?_
    split <;> rename_i heq <;> rw [heq] at hfetch
    · exact h.goTo _
    · exact hfetch
    · exact ((hfetch.recordExit _).ite hfetch).actOnCard _ _

theorem State.KeptBy.stepIteration (h : s₀.KeptBy s) : s₀.KeptBy s.stepIteration := by
  unfold State.stepIteration
  split
  · exact h
  next w _ =>
    split
    · exact h
    next f _ =>
      have hfetch := h.fetchCard (w.iterationLink f) true
      refine State.KeptBy.ite ?_ h
      split <;> rename_i heq <;> rw [heq] at hfetch
      · exact h.goTo _
      · exact hfetch
      · exact ((hfetch.recordExit _).goTo _).ite (((hfetch.recordExit _).changeWalk _).onCache _)

theorem State.KeptBy.spanTested (h : s₀.KeptBy s) (c : Card) (number : Nat) (ws : List Word) :
    s₀.KeptBy (s.spanTested c number ws) := by
  unfold State.spanTested
  split
  · exact h
  · split
    · exact h
    · have hstart := h.changeWalk
      exact ((hstart _).goTo _).ite ((((hstart _).reportWork _ _ _).completeCard c).ite
        (((hstart _).refuseCard _ _ _ _ _).ite ((hstart _).actOnCard c number)))

theorem State.KeptBy.spanTestFaulted (h : s₀.KeptBy s) (c : Card) (number : Nat) (ident : BitVec 24) :
    s₀.KeptBy (s.spanTestFaulted c number ident) := by
  unfold State.spanTestFaulted
  split
  · exact h
  · split
    · exact h
    · exact ((h.reportWork _ _ _).goTo _).ite ((h.reportWork _ _ _).completeCard c)

theorem State.KeptBy.retryRoom (h : s₀.KeptBy s) : s₀.KeptBy s.retryRoom := by
  unfold State.retryRoom
  split
  · exact h
  · split
    · exact h.requestRecord _
    · exact h

theorem State.KeptBy.retryTurn (h : s₀.KeptBy s) : s₀.KeptBy s.retryTurn := by
  unfold State.retryTurn
  split
  · exact h
  · split
    · exact h.openApplication _ _ _
    · exact h

theorem State.KeptBy.requestWalkEnd (h : s₀.KeptBy s) (o : TicketOutcome) : s₀.KeptBy (s.requestWalkEnd o) := by
  unfold State.requestWalkEnd
  split
  · exact h
  · exact (h.endWalk _ _ _).ite (h.changeWalk _)

theorem State.KeptBy.requestParking (h : s₀.KeptBy s) : s₀.KeptBy s.requestParking := by
  unfold State.requestParking
  split
  · exact h
  · dsimp only
    split
    · exact (h.changeWalk _).ite (h.changeWalk _).cardBoundary
    · exact (h.changeWalk _).roomStall _
    all_goals exact h.changeWalk _

theorem State.KeptBy.haltWalk (h : s₀.KeptBy s) : s₀.KeptBy s.haltWalk := by
  unfold State.haltWalk
  split
  · exact h
  · split
    · exact h.cardBoundary
    · exact h.roomStall _
    all_goals exact h

/-! ## The Ticket Unit -/

theorem State.KeptBy.askSweep (h : s₀.KeptBy s) : s₀.KeptBy s.askSweep := (h.onUnit _).ite h.startSweep

theorem State.KeptBy.endSweep (h : s₀.KeptBy s) : s₀.KeptBy s.endSweep := (h.onUnit _).startSweep.ite (h.onUnit _)

theorem State.KeptBy.takeTicket (h : s₀.KeptBy s) (n : Nat) : s₀.KeptBy (s.takeTicket n) := by
  unfold State.takeTicket
  refine ((h.latch _).settleUnheld n _ _).ite ?_
  dsimp only
  split
  · exact h.settleUnheld n _ _
  · exact (h.settleUnheld n _ _).ite (((h.setTicket n _).zeroTallies n).when (·.requestParking))

theorem State.KeptBy.sweepSlot (h : s₀.KeptBy s) (n : Nat) : s₀.KeptBy (s.sweepSlot n) := by
  unfold State.sweepSlot
  refine ((h.latch _).latch _).ite ?_
  split
  · exact h.ite ((h.takeTicket n).ite (h.latch _))
  · exact h.ite ((h.putTicketWord n _ _).latch _)

theorem State.KeptBy.sweepBoard (h : s₀.KeptBy s) : s₀.KeptBy s.sweepBoard :=
  (h.foldl (fun n h => h.sweepSlot n) _).arbitrate

theorem State.KeptBy.expireTicket (h : s₀.KeptBy s) (n : Nat) (k : Ticket) : s₀.KeptBy (s.expireTicket n k) := by
  have hmarked := h.setTicket n
  unfold State.expireTicket
  dsimp only
  split
  · exact ((hmarked _).setTicket n _).settle n
  · exact (hmarked _).ite ((hmarked _).requestWalkEnd _)
  · exact (hmarked _).endTicketWalk n _ _ _
  · exact (((hmarked _).ite ((hmarked _).setTicket n _)).expireEntries n).finishCancel

theorem State.KeptBy.takeExpiry (h : s₀.KeptBy s) (n : Nat) : s₀.KeptBy (s.takeExpiry n) := by
  unfold State.takeExpiry
  split
  · exact h
  · exact (h.expireTicket n _).ite h

theorem State.KeptBy.cancelTicket (h : s₀.KeptBy s) (n : Nat) : s₀.KeptBy (s.cancelTicket n) := by
  unfold State.cancelTicket
  split
  · exact ((h.latch _).giveResult _).ite (((h.settleUnheld n _ _).giveResult _).ite (h.giveResult _))
  · unfold State.cancelHeld
    have hmarked := fun k => (h.setTicket n k).beginCommand (.cancel n)
    dsimp only
    split
    · exact ((h.setTicket n _).settle n).giveResult _
    · exact (h.giveResult _).ite ((hmarked _).requestWalkEnd _).finishCancel
    · exact (h.giveResult _).ite ((hmarked _).endTicketWalk n _ _ _)
    · exact (h.giveResult _).ite (((hmarked _).setTicket n _).cancelEntries n).finishCancel

/-! ## Store time and the air -/

theorem State.KeptBy.setStoreTime (h : s₀.KeptBy s) (v : Word) : s₀.KeptBy (s.setStoreTime v) :=
  (h.onTime _).refreshRush

theorem State.KeptBy.tickSecond (h : s₀.KeptBy s) : s₀.KeptBy s.tickSecond := ((h.onTime _).refreshRush.onUnit _).ite h

theorem State.KeptBy.tickFill (h : s₀.KeptBy s) : s₀.KeptBy s.tickFill := h.onCache _

theorem State.KeptBy.tick (h : s₀.KeptBy s) : s₀.KeptBy s.tick := (((h.onTime _).onUnit _).onAir _).tickFill

theorem State.KeptBy.startCycle (h : s₀.KeptBy s) : s₀.KeptBy s.startCycle := ((h.onTime _).onRoster _).onAir _

theorem State.KeptBy.completeHalt (h : s₀.KeptBy s) : s₀.KeptBy s.completeHalt :=
  ((h.onTime _).onAir _).onHost.finishCommand _

theorem State.KeptBy.nextPeriod (h : s₀.KeptBy s) {start : State → State} (hstart : s₀.KeptBy (start s)) :
    s₀.KeptBy (s.nextPeriod start) := h.completeHalt.ite hstart

theorem State.KeptBy.senseBeacon (h : s₀.KeptBy s) (busy : Bool) : s₀.KeptBy (s.senseBeacon busy) := by
  unfold State.senseBeacon
  split
  · exact h.ite ((h.setStage _).ite ((h.setStage _).keyFrame _))
  all_goals exact h

theorem State.KeptBy.receiveTurns (h : s₀.KeptBy s) (slot : Nat) (turns : List AirTurn) :
    s₀.KeptBy (s.receiveTurns slot turns) :=
  h.ite (((h.onAir _).foldl (fun _ h => h.askAir _) _).ite (h.returnEntries slot))

theorem State.KeptBy.startSlot (h : s₀.KeptBy s) (k : Fin 64) : s₀.KeptBy (s.startSlot k) :=
  (((h.onTime _).onAir _).onRoster _).receiveTurns _ _

theorem State.KeptBy.loseSlot (h : s₀.KeptBy s) (slot : Nat) : s₀.KeptBy (s.loseSlot slot) :=
  ((h.dropAwaitedTurns.onAir _).returnEntries slot).latchIf _ _

theorem State.KeptBy.sendRollCall (h : s₀.KeptBy s) (slot : Nat) : s₀.KeptBy (s.sendRollCall slot) :=
  ((h.dropAwaitedTurns.onAir _).keyFrame _).ite (h.dropAwaitedTurns.setStage _)

theorem State.KeptBy.senseSlot (h : s₀.KeptBy s) (busy : Bool) : s₀.KeptBy (s.senseSlot busy) := by
  unfold State.senseSlot
  split
  · exact h.ite (((h.setStage _).ite (h.loseSlot _)).ite (h.sendRollCall _))
  · exact h

theorem State.KeptBy.sendTurn (h : s₀.KeptBy s) (x : AirTurn) (frame : List Byte) : s₀.KeptBy (s.sendTurn x frame) :=
  (((h.setStage _).keyFrame frame).changeEntry _ _).ite ((h.setStage _).keyFrame frame)

theorem State.KeptBy.startTurn (h : s₀.KeptBy s) (number : Nat) : s₀.KeptBy (s.startTurn number) := by
  unfold State.startTurn
  split
  · refine h.ite ?_
    split
    · exact h
    · split
      · exact h
      · exact h.sendTurn _ _
  all_goals exact h

theorem State.KeptBy.openWindow (h : s₀.KeptBy s) : s₀.KeptBy s.openWindow := by
  unfold State.openWindow
  split
  · exact h
  · exact h.setStage _

theorem State.KeptBy.receiveFrame (h : s₀.KeptBy s) (frame : List Byte) : s₀.KeptBy (s.receiveFrame frame) := by
  unfold State.receiveFrame
  split
  · exact h
  · dsimp only
    split
    · exact (h.closeTurn _).reportReply _ _
    · exact (h.closeTurn _).reportSilence _

theorem State.KeptBy.closeWindow (h : s₀.KeptBy s) : s₀.KeptBy s.closeWindow := by
  unfold State.closeWindow
  split
  · exact h
  · exact (h.closeTurn _).reportSilence _

theorem State.KeptBy.endSlot (h : s₀.KeptBy s) (k : Fin 64) : s₀.KeptBy (s.endSlot k) :=
  have hreturned := (((h.onTime _).onCache _).onAir _).returnEntries _
  hreturned.nextPeriod (start := id) hreturned

theorem State.KeptBy.tripKeyMonitor (h : s₀.KeptBy s) : s₀.KeptBy s.tripKeyMonitor := (h.onAir _).latch _

/-! ## Host accesses of RAM (R170, R171) -/

theorem State.KeptBy.ramRead (h : s₀.KeptBy s) (off : Nat) : s₀.KeptBy (s.ramRead off) := h.onHost.latchIf _ _

theorem State.KeptBy.ramWrite (h : s₀.KeptBy s) (off : Nat) (w : Word) : s₀.KeptBy (s.ramWrite off w) := h.putWord off w

theorem State.KeptBy.snoopWordRead (h : s₀.KeptBy s) (off : Nat) : s₀.KeptBy (s.snoopWordRead off) := by
  unfold State.snoopWordRead
  split
  · exact h.onHost
  · exact h.onHost
  · exact h.ramRead off
  · exact h.ramRead off

theorem State.KeptBy.snoopWordWrite (h : s₀.KeptBy s) (off : Nat) (w : Word) : s₀.KeptBy (s.snoopWordWrite off w) := by
  unfold State.snoopWordWrite
  split
  · exact (h.ramWrite off w).onCache _
  · exact h.onCache _
  · exact h.onCache _
  · exact h.ramWrite off w

theorem State.KeptBy.answerAccess (h : s₀.KeptBy s) (a : HostAccess) : s₀.KeptBy (s.answerAccess a) := by
  cases a with
  | read addr =>
    simp only [State.answerAccess, State.answerRead]
    split
    · exact (h.snoopWordRead _).ite (h.ramRead _)
    · exact h.ramRead _
    · exact h.onHost
    · exact h.onHost
  | write addr w =>
    simp only [State.answerAccess, State.answerWrite]
    split
    · exact (h.snoopWordWrite _ w).ite (h.ramWrite _ w)
    · exact h.ramWrite _ w
    · exact h
    · exact h

theorem State.KeptBy.access (h : s₀.KeptBy s) (a : HostAccess) : s₀.KeptBy (s.access a) :=
  h.onHost.ite (h.answerAccess a)

theorem State.KeptBy.drainHeld (h : s₀.KeptBy s) : s₀.KeptBy s.drainHeld :=
  h.onHost.foldl (fun a h => h.answerAccess a) _

/-! ## The cache and its port -/

theorem State.KeptBy.putRecordWords (h : s₀.KeptBy s) (i : Nat) (l : List (Nat × Word)) :
    s₀.KeptBy (s.putRecordWords i l) := h.foldl (fun _ h => h.putWord _ _) l

theorem State.KeptBy.serveOnLine (h : s₀.KeptBy s) (key : Nat) (l : Line) (op : CacheOp) :
    s₀.KeptBy (s.serveOnLine key l op) := h.ite ((h.onCache _).ite ((h.putRecordWords _ _).onCache _))

theorem State.KeptBy.pushRecord (h : s₀.KeptBy s) (l : Line) : s₀.KeptBy (s.pushRecord l) := h.putRecordWords _ _

theorem State.KeptBy.answerSpanTest (h : s₀.KeptBy s) (a : Answer) : s₀.KeptBy (s.answerSpanTest a) := by
  unfold State.answerSpanTest
  split
  · cases a with
    | served => exact h.spanTested _ _ _
    | fault => exact h.spanTestFaulted _ _ _
  · exact h

theorem State.KeptBy.answerRecord (h : s₀.KeptBy s) (a : Answer) (ident : BitVec 24) :
    s₀.KeptBy (s.answerRecord a ident) := by
  unfold State.answerRecord
  split
  · cases a with
    | served => exact h.unlessEnding (h.recordArrived _ _)
    | fault => exact h.unlessEnding (h.applicationFaulted _ _)
  · exact h

theorem State.KeptBy.answerStage (h : s₀.KeptBy s) (a : Answer) : s₀.KeptBy (s.answerStage a) := by
  unfold State.answerStage
  split
  · cases a with
    | served => exact h.imageStaged _ _
    | fault => exact h.imageFaulted _ _
  · exact h

theorem State.KeptBy.deliver (h : s₀.KeptBy s) (r : Request) (a : Answer) (ident : BitVec 24) :
    s₀.KeptBy (s.deliver r a ident) := by
  unfold State.deliver
  split
  · cases a <;> exact h.turnRead _ _
  · exact h.statusWritten _
  · cases a with
    | served => exact h.confirmRead _ _ _
    | fault => exact h.endTurn _
  · cases a with
    | served => exact h.writeBackDelivery _
    | fault => exact h.endTurn _
  · exact h.deliveryWritten _
  · exact h.answerSpanTest a
  · exact h.answerRecord a ident
  · exact h.answerStage a

theorem State.KeptBy.finishPush (h : s₀.KeptBy s) : s₀.KeptBy s.finishPush := ((h.onCache _).finishCommand _).ite h
theorem State.KeptBy.finishDrop (h : s₀.KeptBy s) : s₀.KeptBy s.finishDrop := ((h.onCache _).finishCommand _).ite h
theorem State.KeptBy.finishLoaderPush (h : s₀.KeptBy s) : s₀.KeptBy s.finishLoaderPush :=
  ((h.onCache _).withLoader _).ite h

theorem State.KeptBy.finishCacheCommands (h : s₀.KeptBy s) : s₀.KeptBy s.finishCacheCommands :=
  h.finishPush.finishDrop.finishLoaderPush

theorem State.KeptBy.grantRequest (h : s₀.KeptBy s) (who : Requester) (r : Request) :
    s₀.KeptBy (s.grantRequest who r) := by
  unfold State.grantRequest
  refine (h.onCache _).ite ?_
  split
  · exact ((h.serveOnLine _ _ _).onCache _).deliver _ _ _
  · exact (((h.putRecordWords _ _).onCache _).deliver _ _ _).ite ((h.onCache _).ite (h.onCache _))

theorem State.KeptBy.grantPort (h : s₀.KeptBy s) : s₀.KeptBy s.grantPort := by
  unfold State.grantPort
  refine h.ite ?_
  split
  · exact h.grantRequest _ _
  · split
    · exact ((h.pushRecord _).onCache _).finishCacheCommands
    · exact h

theorem State.KeptBy.endFill (h : s₀.KeptBy s) : s₀.KeptBy s.endFill := (h.onCache _).finishCacheCommands.drainHeld

theorem State.KeptBy.pushBuffered (h : s₀.KeptBy s) : s₀.KeptBy s.pushBuffered := by
  unfold State.pushBuffered
  split
  · exact h
  · exact (h.pushRecord _).onCache _

theorem State.KeptBy.completeFill (h : s₀.KeptBy s) (f : Fill) : s₀.KeptBy (s.completeFill f) := by
  unfold State.completeFill
  cases f.request with
  | none => exact (h.onCache _).pushBuffered.endFill
  | some r => exact (((h.onCache _).serveOnLine _ _ _).pushBuffered.endFill).deliver _ _ _

theorem State.KeptBy.installFill (h : s₀.KeptBy s) : s₀.KeptBy s.installFill := by
  unfold State.installFill
  split
  · exact h
  · exact (h.completeFill _).ite h

theorem State.KeptBy.abandonComplete (h : s₀.KeptBy s) (f : Fill) : s₀.KeptBy (s.abandonComplete f) := by
  unfold State.abandonComplete
  have hrestored :
      s₀.KeptBy
        (match s.cache.pushBuffer with
         | none => s
         | some l => s.onCache fun c => { (c.putLine f.key l) with pushBuffer := none }) := by
    split
    · exact h
    · exact h.onCache _
  dsimp only
  split
  · exact (hrestored.latch _).endFill
  · exact (hrestored.latch _).endFill.deliver _ _ _

theorem State.KeptBy.abandonFill (h : s₀.KeptBy s) : s₀.KeptBy s.abandonFill := by
  unfold State.abandonFill
  split
  · exact h
  · exact h.ite (h.abandonComplete _)

/-! ## The Loader -/

theorem State.KeptBy.startLoad (h : s₀.KeptBy s) : s₀.KeptBy s.startLoad :=
  (((((((h.onTime _).onAir _).onUnit _).withWalk _).onRoster _).onCache _).onHost.withLoader _).finishLoaderPush

theorem State.KeptBy.interruptTicket (h : s₀.KeptBy s) (a : Nat) : s₀.KeptBy (s.interruptTicket a) :=
  (((((h.latchIf _ _).foldl (fun _ h => h.putWord _ _) _).putWord _ _).putWord _ _).putWord _ _).latch _

theorem State.KeptBy.loadSweepSlot (h : s₀.KeptBy s) (base n : Nat) : s₀.KeptBy (State.loadSweepSlot base s n) :=
  ((h.latch _).latch _).ite ((h.interruptTicket _).ite (h.ite (h.latch _)))

theorem State.KeptBy.endReload (h : s₀.KeptBy s) (run : RunState) (code : LoadFaultCode) :
    s₀.KeptBy (s.endReload run code) := h.onHost.withLoader _

theorem State.KeptBy.failLoad (h : s₀.KeptBy s) (code : LoadFaultCode) : s₀.KeptBy (s.failLoad code) :=
  (h.endReload _ code).latch _

theorem State.KeptBy.completeLoad (h : s₀.KeptBy s) (l : Load) : s₀.KeptBy (s.completeLoad l) :=
  ((h.withLoad _).refreshRush.endReload _ _).latch _

theorem State.KeptBy.checkLoad (h : s₀.KeptBy s) : s₀.KeptBy s.checkLoad := by
  unfold State.checkLoad
  refine ((h.failLoad _).latch _).ite ?_
  split
  · exact ((h.failLoad _).latch _).ite ((h.failLoad _).ite
      ((h.foldl (fun n h => h.loadSweepSlot _ n) _).completeLoad _))
  · exact h.failLoad _

/-! ## The commands of CONTROL and the registers -/

theorem State.KeptBy.takeRun (h : s₀.KeptBy s) : s₀.KeptBy s.takeRun :=
  (h.onHost.onAir _).startCycle.startSweep.arbitrate

theorem State.KeptBy.takeHalt (h : s₀.KeptBy s) : s₀.KeptBy s.takeHalt :=
  have hstopped := ((h.beginCommand .halt).onUnit _).haltWalk
  hstopped.completeHalt.ite hstopped

theorem State.KeptBy.restartRadio (h : s₀.KeptBy s) : s₀.KeptBy s.restartRadio :=
  ((h.onAir _).giveResult _).ite (h.giveResult _)

theorem State.KeptBy.take (h : s₀.KeptBy s) (c : Command) (argument : Nat) : s₀.KeptBy (s.take c argument) := by
  cases c with
  | run => exact h.takeRun
  | halt => exact h.takeHalt
  | reload => exact h.startLoad
  | pushAll => exact ((h.beginCommand _).onCache _).finishPush
  | dropAll => exact (h.beginCommand _).finishDrop
  | cancel => exact h.cancelTicket argument
  | radioRestart => exact h.restartRadio

theorem State.KeptBy.judgeCommand (h : s₀.KeptBy s) (c : Command) (argument : Nat) :
    s₀.KeptBy (s.judgeCommand c argument) :=
  have htaken := (h.nameCommand c.code).take c argument
  htaken.ite ((h.refuse _ _).ite ((h.refuse _ _).ite ((h.refuse _ _).ite htaken)))

theorem State.KeptBy.command (h : s₀.KeptBy s) (code : BitVec 4) (argument : Nat) :
    s₀.KeptBy (s.command code argument) := by
  unfold State.command
  refine (h.latch _).ite ?_
  split
  · exact h.refuse _ _
  · exact h.judgeCommand _ _

theorem State.KeptBy.nudged (h : s₀.KeptBy s) : s₀.KeptBy s.nudged := ((h.askSweep.ite h).ite h.askSweep).ite h

/-- A write of any register but ATTENTION. -/
theorem State.KeptBy.writeRegister (h : s₀.KeptBy s) {k : Nat} (hk : k ≠ 3) (v : Word) :
    s₀.KeptBy (s.writeRegister k v) := by
  unfold State.writeRegister
  split
  · exact h.command _ _
  · exact h.nudged
  · exact absurd rfl hk
  · exact h.onHost
  · exact h.setStoreTime v
  · exact h

/-- A host write of any address but that of ATTENTION. -/
theorem State.KeptBy.hostStore (h : s₀.KeptBy s) {a : BitVec 24} (ha : decodeWindow a ≠ .register 3) (v : Word) :
    s₀.KeptBy (s.hostStore a v) := by
  unfold State.hostStore
  split
  next k hk => exact h.writeRegister (fun h3 => ha (h3 ▸ hk)) v
  all_goals exact h.access _

end Acts

end Sys2Proof.Machine
end

section
/-! What every command and every step keep: the queue and the canonical form of the RAM always, the latched causes but
for a write of ATTENTION and a power-on (R171, R176, R184, R186; log 1). -/

namespace Sys2Proof.Machine

/-! ## The write of ATTENTION through the window (R172, R176) -/

theorem decodeWindow_eq_register {a : BitVec 24} {k : Nat} (h : decodeWindow a = .register k) :
    a.toNat / 4 = 0xF00000 / 4 + k := by
  simp only [decodeWindow] at h
  split_ifs at h
  simp only [Reach.register.injEq] at h
  omega

theorem State.hostStore_of_attention {a : BitVec 24} (h : decodeWindow a = .register 3) (s : State) (v : Word) :
    s.hostStore a v = s.clearAttention v := by simp [State.hostStore, h, State.writeRegister]

/-! ## Every command and every step -/

/-- Every command but a power-on and a write of ATTENTION keeps the queue, the latched causes and the RAM's form. -/
theorem exec_keptBy {i : Instr} {s t : State} (hpower : i ≠ .powerOnReset) (hclear : ∀ v, i ≠ .attentionWrite v)
    (hstore : ∀ a v, i = .hostWrite a v → decodeWindow a ≠ .register 3) (h : exec i s = .next t) : s.KeptBy t := by
  have hs := State.KeptBy.refl s
  cases i <;> obtain rfl := Host.Outcome.next.inj h
  case powerOnReset => exact absurd rfl hpower
  case attentionWrite v => exact absurd rfl (hclear v)
  case hostWrite a v => exact hs.hostStore (hstore a v rfl) v
  case hostRead | snoopRead | snoopWrite => exact hs.access _
  case run | halt | reload | pushAll | dropAll | radioRestart | cancel | undefinedCommand => exact hs.command _ _
  case nudge => exact hs.nudged
  case attnEnableWrite => exact hs.onHost
  case storeTimeWrite v => exact hs.setStoreTime v
  case otherRegisterWrite v => exact hs.writeRegister (by decide) v
  case secondTick => exact hs.tickSecond
  case ticketExpiry => exact hs.takeExpiry _
  case cycleStart => exact hs.when fun hs => hs.nextPeriod hs.startCycle
  case beaconSense busy => exact hs.senseBeacon busy
  case slotStart =>
    split
    · exact hs
    · exact hs.nextPeriod (hs.startSlot _)
  case slotSense busy => exact hs.senseSlot busy
  case turnStart => exact hs.startTurn _
  case frameSent => exact hs.onAir _
  case replyWindowOpen => exact hs.openWindow
  case replyReceived frame => exact hs.receiveFrame frame
  case replyWindowClose => exact hs.closeWindow
  case slotEnd =>
    split
    · exact hs
    · exact hs.endSlot _
  case keyMonitorTrip => exact hs.tripKeyMonitor
  case sweepTimerExpiry => exact hs.when (·.askSweep)
  case sweep => exact hs.when (·.sweepBoard.endSweep)
  case cardRead => exact hs.stepCard
  case spanIteration => exact hs.stepIteration
  case roomStallRetry => exact hs.retryRoom
  case turnStallRetry => exact hs.retryTurn
  case portGrant => exact hs.grantPort
  case fillInstall => exact hs.installFill
  case fillAbandon => exact hs.abandonFill
  case loadCheck => exact hs.when (·.checkLoad)

/-- The three commands that clear causes keep queue and RAM form too. -/
theorem exec_keeps_queue_and_ram {i : Instr} {s t : State} (h : exec i s = .next t) :
    t.pending = s.pending ∧ (s.ram.wf = true → t.ram.wf = true) := by
  by_cases hpower : i = .powerOnReset
  · subst hpower
    obtain rfl := Host.Outcome.next.inj h
    exact ⟨rfl, fun _ => Ram.wf_powerOn _⟩
  by_cases hclear : ∃ v, i = .attentionWrite v
  · obtain ⟨v, rfl⟩ := hclear
    obtain rfl := Host.Outcome.next.inj h
    exact ⟨rfl, id⟩
  by_cases hstore : ∃ a v, i = .hostWrite a v ∧ decodeWindow a = .register 3
  · obtain ⟨a, v, rfl, ha⟩ := hstore
    obtain rfl := Host.Outcome.next.inj h
    rw [State.hostStore_of_attention ha]
    exact ⟨rfl, id⟩
  have hkept := exec_keptBy hpower (fun v hv => hclear ⟨v, hv⟩) (fun a v hv ha => hstore ⟨a, v, hv, ha⟩) h
  exact ⟨hkept.queue, hkept.canonical⟩

end Sys2Proof.Machine

namespace Sys2Proof.HostLinkAndStartUp
open Sys2Proof.Machine

/-- Settles O56: a tick leaves the RAM alone, and every command keeps its form. -/
theorem stepsKeepTheRamForm : Obligations.StepsKeepTheRamForm := by
  intro s t hwf hstep
  unfold step at hstep
  split at hstep
  · obtain rfl := Host.Outcome.next.inj hstep
    exact (State.KeptBy.refl s).tick.canonical hwf
  · exact (exec_keeps_queue_and_ram hstep).2 hwf

/-- Settles O60: every command keeps the queue, and all but the two that clear causes keep each latched cause. -/
theorem onlyTheHostClearsACause : Obligations.OnlyTheHostClearsACause := by
  refine ⟨fun i s t h => (exec_keeps_queue_and_ram h).1, fun _ _ => rfl, fun i s t hpower hclear hstore h => ?_⟩
  exact (exec_keptBy hpower hclear (fun a v hi ha => hstore a v hi (decodeWindow_eq_register ha)) h).causes

end Sys2Proof.HostLinkAndStartUp
end

section
/-! The Host Link's window: what a host access reaches, the words that the registers read, their writes, and the
attention output (R170 to R172, R174, R176, R177). -/

namespace Sys2Proof.Machine

/-! ## What an address reaches (R170) -/

theorem decodeWindow_register {k : Nat} (hk : k < 6) :
    decodeWindow (BitVec.ofNat 24 (0xF00000 + 4 * k)) = .register k := by
  have haddr : (BitVec.ofNat 24 (0xF00000 + 4 * k)).toNat = 0xF00000 + 4 * k := by
    rw [BitVec.toNat_ofNat]
    omega
  simp only [decodeWindow, haddr]
  rw [if_neg (by omega), if_neg (by omega), if_neg (by omega), if_neg (by omega), if_pos (by omega)]
  exact congrArg Reach.register (by omega)

theorem decodeWindow_nothing {a : BitVec 24}
    (h : (0x400000 ≤ a.toNat ∧ a.toNat < 0x800000) ∨ (0xC00000 ≤ a.toNat ∧ a.toNat < 0xF00000) ∨ 0xF00018 ≤ a.toNat) :
    decodeWindow a = .nothing := by
  simp only [decodeWindow]
  obtain h | h | h := h
  · rw [if_neg (by omega), if_pos (by omega)]
  · rw [if_neg (by omega), if_neg (by omega), if_neg (by omega), if_pos (by omega)]
  · rw [if_neg (by omega), if_neg (by omega), if_neg (by omega), if_neg (by omega), if_neg (by omega)]

/-! ## Accesses of registers and of nothing (R170, R172) -/

theorem exec_hostRead (a : BitVec 24) (s : State) : exec (.hostRead a) s = .next (s.access (.read a)) := rfl

theorem exec_hostWrite (a : BitVec 24) (v : Word) (s : State) : exec (.hostWrite a v) s = .next (s.hostStore a v) := rfl

theorem State.access_read_of_free {s : State} {a : BitVec 24} (h : s.holds a = false) :
    s.access (.read a) = s.answerRead a :=
  State.access_of_free (a := .read a) h

theorem State.access_write_of_free {s : State} {a : BitVec 24} (h : s.holds a = false) (v : Word) :
    s.access (.write a v) = s.answerWrite a v := State.access_of_free (a := .write a v) h

theorem exec_hostRead_of_register {a : BitVec 24} {k : Nat} (h : decodeWindow a = .register k) (s : State) :
    exec (.hostRead a) s = .next { s with host := { s.host with readData := some (s.registerWord k) } } := by
  rw [exec_hostRead, State.access_read_of_free (by simp [State.holds, h])]
  simp only [State.answerRead, h]
  rfl

theorem exec_hostWrite_of_register {a : BitVec 24} {k : Nat} (h : decodeWindow a = .register k) (s : State) (v : Word) :
    exec (.hostWrite a v) s = .next (s.writeRegister k v) := by
  simp only [exec_hostWrite, State.hostStore, h]

theorem exec_hostRead_of_nothing {a : BitVec 24} (h : decodeWindow a = .nothing) (s : State) :
    exec (.hostRead a) s = .next { s with host := { s.host with readData := some 0#32 } } := by
  rw [exec_hostRead, State.access_read_of_free (by simp [State.holds, h])]
  simp only [State.answerRead, h]
  rfl

theorem exec_hostWrite_of_nothing {a : BitVec 24} (h : decodeWindow a = .nothing) (s : State) (v : Word) :
    exec (.hostWrite a v) s = .next s := by
  simp only [exec_hostWrite, State.hostStore, h]
  rw [State.access_write_of_free (by simp [State.holds, h])]
  simp only [State.answerWrite, h]

/-! ## Accesses of RAM with none held (R171) -/

theorem State.holds_coherent_of_free {s : State} {k : Nat} (hk : k < 1048576) (hheld : s.host.held = [])
    (hdir : s.inDirectory (4 * k) = false) : s.holds (BitVec.ofNat 24 (4 * k)) = false := by
  simp [s.holds_coherent hk, hheld, State.snoopWaits, hdir]

theorem State.holds_direct_of_free {s : State} {k : Nat} (hk : k < 1048576) (hheld : s.host.held = []) :
    s.holds (BitVec.ofNat 24 (0x800000 + 4 * k)) = false := by simp [s.holds_direct hk, hheld]

theorem exec_hostRead_direct {s : State} {k : Nat} (hk : k < 1048576) (hheld : s.host.held = []) :
    exec (.hostRead (BitVec.ofNat 24 (0x800000 + 4 * k))) s = .next (s.ramRead (4 * k)) := by
  rw [exec_hostRead, State.access_read_of_free (State.holds_direct_of_free hk hheld)]
  simp only [State.answerRead, decodeWindow_direct hk]

theorem exec_hostRead_coherent {s : State} {k : Nat} (hk : k < 1048576) (hheld : s.host.held = [])
    (hdir : s.inDirectory (4 * k) = false) :
    exec (.hostRead (BitVec.ofNat 24 (4 * k))) s = .next (s.ramRead (4 * k)) := by
  rw [exec_hostRead, State.access_read_of_free (State.holds_coherent_of_free hk hheld hdir)]
  simp only [State.answerRead, decodeWindow_coherent hk, hdir, Bool.false_eq_true, if_false]

theorem exec_hostWrite_direct {s : State} {k : Nat} (hk : k < 1048576) (w : Word) (hheld : s.host.held = []) :
    exec (.hostWrite (BitVec.ofNat 24 (0x800000 + 4 * k)) w) s = .next (s.ramWrite (4 * k) w) := by
  rw [exec_hostWrite_of_ram (.inr (decodeWindow_direct hk)),
    State.access_write_of_free (State.holds_direct_of_free hk hheld)]
  simp only [State.answerWrite, decodeWindow_direct hk]

theorem exec_hostWrite_coherent {s : State} {k : Nat} (hk : k < 1048576) (w : Word) (hheld : s.host.held = [])
    (hdir : s.inDirectory (4 * k) = false) :
    exec (.hostWrite (BitVec.ofNat 24 (4 * k)) w) s = .next (s.ramWrite (4 * k) w) := by
  rw [exec_hostWrite_of_ram (.inl (decodeWindow_coherent hk)),
    State.access_write_of_free (State.holds_coherent_of_free hk hheld hdir)]
  simp only [State.answerWrite, decodeWindow_coherent hk, hdir, Bool.false_eq_true, if_false]

/-! ## The words of the registers (R172, R173, R176, R177) -/

theorem RunState.code_eq (r : RunState) : r.code = r.number := by cases r <;> rfl
theorem CommandResult.code_eq (r : CommandResult) : r.code = r.number := by cases r <;> rfl
theorem LoadFaultCode.code_eq (c : LoadFaultCode) : c.code = c.number := by cases c <;> rfl

/-- CONTROL's fields, each at its place. -/
theorem HostLink.controlWord_fields (h : HostLink) :
    h.controlWord.extractLsb' 0 3 = h.runState.number ∧ h.controlWord.getLsbD 3 = h.active.isSome
      ∧ h.controlWord.extractLsb' 4 4 = h.lastCommand ∧ h.controlWord.extractLsb' 8 3 = h.lastResult.number
      ∧ h.controlWord.extractLsb' 12 4 = h.loadFault.number ∧ h.controlWord.getLsbD 11 = false
      ∧ h.controlWord.extractLsb' 16 16 = 0#16 := by
  simp only [HostLink.controlWord, RunState.code_eq, CommandResult.code_eq, LoadFaultCode.code_eq]
  refine ⟨BitVec.extractLsb'_append_eq_right, ?active, ?command, ?result, ?fault, ?gap, ?high⟩
  case active =>
    rw [BitVec.getLsbD_append, BitVec.getLsbD_append]
    simp
  case gap =>
    iterate 5 rw [BitVec.getLsbD_append]
    simp
  case high =>
    iterate 6 rw [BitVec.extractLsb'_append_eq_of_le (by decide)]
    exact BitVec.extractLsb'_eq_self
  all_goals
    repeat rw [BitVec.extractLsb'_append_eq_of_le (by decide)]
    exact BitVec.extractLsb'_append_eq_right

theorem zeroExtend_causes (x : BitVec 9) : x.zeroExtend 32 = (0#23 ++ x : BitVec 32) :=
  BitVec.setWidth_eq_append (by omega)

/-- The output follows the causes that are both latched and enabled; it holds nothing of its own (R177). -/
theorem State.attentionOutput_iff (s : State) :
    s.attentionOutput = true ↔ ∃ k, k < 9 ∧ s.host.attention.getLsbD k = true ∧ s.host.enable.getLsbD k = true := by
  have hbits : s.host.attention &&& s.host.enable = 0#9 ↔
      ∀ k, k < 9 → ¬ (s.host.attention.getLsbD k = true ∧ s.host.enable.getLsbD k = true) := by
    constructor
    · intro hzero k _
      have hbit := congrArg (·.getLsbD k) hzero
      simpa using hbit
    · intro hnone
      refine BitVec.eq_of_getLsbD_eq fun k hk => ?_
      simpa using hnone k hk
  simp only [State.attentionOutput, bne_iff_ne, ne_eq, hbits]
  push Not
  rfl

/-! ## CONTROL's argument (R174) -/

/-- No command but CANCEL looks at the argument byte. -/
theorem State.command_argument {c : Command} (hc : c ≠ .cancel) (s : State) (n : Nat) :
    s.command c.code n = s.command c.code 0 := by
  have htake : ∀ t : State, t.take c n = t.take c 0 := fun t => by
    cases c with
    | cancel => exact absurd rfl hc
    | _ => rfl
  simp only [State.command, Command.ofCode_code, State.judgeCommand, htake, hc, false_and, if_false]

theorem Command.ofCode_of_undefined {code : BitVec 4} (h : isUndefinedCode code = true) :
    Command.ofCode code = none := by
  revert code
  decide

theorem State.command_of_undefined {code : BitVec 4} (h : isUndefinedCode code = true) (s : State) (n : Nat) :
    s.command code n = if s.commandBlocks then s.latch .commandLost else s.refuse code .badArgument := by
  simp only [State.command, Command.ofCode_of_undefined h]

end Sys2Proof.Machine
end


section
/-! The registers, the host's accesses of RAM and the state after power-on (R170 to R174, R176, R177, R184). -/

namespace Sys2Proof.HostLinkAndStartUp
open Sys2Proof.Machine

/-- Settles O4: the two aliases, with no access held, make the same read of the RAM. -/
theorem hostReadAnswersTheStoredWord : Obligations.HostReadAnswersTheStoredWord := by
  intro s k hk hheld t
  rw [exec_hostRead_direct hk hheld, State.ramRead_eq]
  exact ⟨rfl, fun hdir => by rw [exec_hostRead_coherent hk hheld hdir, State.ramRead_eq]⟩

/-- Settles O5: the laws of a word write, which is all that a host write of RAM does. -/
theorem hostWriteReplacesItsWord : Obligations.HostWriteReplacesItsWord := by
  have hlaws : ∀ (m : Ram) (a : Nat) (w : Word), m.wf = true →
      (m.setWord a w).wf = true ∧ (m.setWord a w).word a = w ∧ (m.setWord a w).faulty a = false
        ∧ ∀ x, x / 4 ≠ a / 4 → (m.setWord a w).byte x = m.byte x ∧ (m.setWord a w).faulty x = m.faulty x :=
    fun m a w hwf => ⟨Ram.wf_setWord hwf a w, Ram.word_setWord_self hwf a w, by simp [Ram.faulty_setWord], fun x hx =>
      ⟨Ram.byte_setWord_ne hwf hx w, by rw [Ram.faulty_setWord, if_neg hx]⟩⟩
  refine ⟨hlaws, fun s k w hk hheld hwf => ?_⟩
  obtain ⟨-, hword, hgood, hothers⟩ := hlaws s.ram (4 * k) w hwf
  exact ⟨s.ramWrite (4 * k) w, exec_hostWrite_direct hk w hheld, exec_hostWrite_coherent hk w hheld, rfl, hword, hgood,
    fun x hx => hothers x (by omega)⟩

/-- Settles O6: each register reads its word, whose fields stand at their places. -/
theorem registersReadTheirFields : Obligations.RegistersReadTheirFields := by
  refine ⟨fun s => ?_, fun s a w h =>
    ⟨exec_hostRead_of_nothing (decodeWindow_nothing h) s, exec_hostWrite_of_nothing (decodeWindow_nothing h) s w⟩⟩
  have hread : ∀ k, k < 6 → exec (.hostRead (BitVec.ofNat 24 (0xF00000 + 4 * k))) s =
      .next { s with host := { s.host with readData := some (s.registerWord k) } } :=
    fun k hk => exec_hostRead_of_register (decodeWindow_register hk) s
  refine ⟨hread 0 (by decide), ⟨_, hread 1 (by decide), s.host.controlWord_fields⟩, hread 2 (by decide),
    ?_, ?_, hread 5 (by decide)⟩
  · rw [← zeroExtend_causes]
    exact hread 3 (by decide)
  · rw [← zeroExtend_causes]
    exact hread 4 (by decide)

/-- Settles O7: the write of each register address, and for CONTROL the command of its code. -/
theorem registerWritesAreTheirCommands : Obligations.RegisterWritesAreTheirCommands := by
  intro s v code
  have hwrite : ∀ k, k < 6 → exec (.hostWrite (BitVec.ofNat 24 (0xF00000 + 4 * k)) v) s = .next (s.writeRegister k v) :=
    fun k hk => exec_hostWrite_of_register (decodeWindow_register hk) s v
  have hcontrol : exec (.hostWrite 0xF00004#24 v) s = .next (s.command code (bitsOf v 16 8)) := hwrite 1 (by decide)
  have hcommand : ∀ c : Command, c ≠ .cancel → code = c.code →
      exec (.hostWrite 0xF00004#24 v) s = .next (s.command c.code 0) := fun c hc hcode => by
    rw [hcontrol, hcode, State.command_argument hc]
  refine ⟨rfl, hwrite 0 (by decide), hwrite 2 (by decide), hwrite 3 (by decide), hwrite 4 (by decide),
    hwrite 5 (by decide), hcommand .run nofun, hcommand .halt nofun, hcommand .reload nofun, hcommand .pushAll nofun,
    hcommand .dropAll nofun, fun hcode => ?cancel, hcommand .radioRestart nofun, fun hcode => ?undefined⟩
  case cancel =>
    rw [hcontrol, hcode]
    rfl
  case undefined =>
    rw [hcontrol, State.command_of_undefined hcode, ← State.command_of_undefined hcode s 0]
    rfl

/-- Settles O3: the state right after power-on, and what its registers read. -/
theorem powerOnResetClearsThePart : Obligations.PowerOnResetClearsThePart := by
  refine ⟨fun s => rfl, ?_⟩
  dsimp only
  decide

/-- Settles O59: nothing is listed, no entry stands, the schedule rests and no load is held. -/
theorem resetMeetsTheInvariants : Obligations.ResetMeetsTheInvariants :=
  ⟨State.reset_ram_wf, rfl, rfl, rfl⟩

end Sys2Proof.HostLinkAndStartUp
end

section
/-! The commands of CONTROL: their refusals in order, and RUN and HALT when they are taken (R24, R35, R43, R54, R63,
R71, R81, R113, R128, R174, R175; logs 21, 26, 40, 41). -/

namespace Sys2Proof.Machine

/-! ## The rows of R174 -/

section Rows
variable {s : State} {c : Command}

theorem State.commandBlocks_eq_false (h : s.host.active = none ∨ s.host.active = some .reload) :
    s.commandBlocks = false := by rcases h with h | h <;> simp [State.commandBlocks, h]

/-- Row 1: COMMAND_LOST while a command other than RELOAD is in progress. -/
theorem State.command_of_blocked {a : ActiveCommand} (hactive : s.host.active = some a) (ha : a ≠ .reload)
    (code : BitVec 4) (n : Nat) :
    s.command code n = { s with host := { s.host with attention := s.host.attention ||| 0x100#9 } } :=
  if_pos (by simp [State.commandBlocks, hactive, ha])

theorem State.command_of_free (hfree : s.commandBlocks = false) (c : Command) (n : Nat) :
    s.command c.code n = s.judgeCommand c n := by simp [State.command, hfree, Command.ofCode_code]

theorem State.judgeCommand_of_wrongState (hc : c ≠ .reload) (h : c.takenIn s.host.runState = false) (n : Nat) :
    s.judgeCommand c n = s.refuse c.code .wrongState := by simp [State.judgeCommand, hc, h]

theorem State.judgeCommand_of_badArgument (h : Command.cancel.takenIn s.host.runState = true) {n : Nat} (hn : 31 < n) :
    s.judgeCommand .cancel n = s.refuse 6#4 .badArgument := by simp [State.judgeCommand, h, hn, Command.code]

theorem State.judgeCommand_of_noTime (h : Command.run.takenIn s.host.runState = true) (hset : s.time.timeSet = false)
    (n : Nat) : s.judgeCommand .run n = s.refuse 1#4 .noTime := by simp [State.judgeCommand, h, hset, Command.code]

end Rows

/-! ## RUN (R24, R35, R113, R128; log 40) -/

/-- RUN up to the arbiter's choice. -/
def State.runBegins (s : State) : State :=
  (((s.onHost fun h => { h with runState := .running, lastResult := .done }).onAir fun a =>
    if a.radio = .off then { a with radio := .active, lostSlots := 0 } else a).startCycle).startSweep

theorem State.takeRun_eq (s : State) : s.takeRun = s.runBegins.arbitrate := rfl

/-- What RUN's cycle start and sweep make of each block, the radio's taken as it stands. -/
theorem State.runBegins_eq (s : State) :
    s.runBegins =
      { s with
        host := { s.host with runState := .running, lastResult := .done }
        time := s.time.atCycleStart
        unit := { s.unit with sweepActive := true, sweepTimer := some 0 }
        roster := { s.roster with
          entries := s.roster.entries.map fun e =>
            e.atCycleStart (rushRenewal s.time.cycleRush s.time.liveRush) s.time.storeTime }
        air := s.runBegins.air } := rfl

theorem rushRenewal_eq (previous now : RushState) : rushRenewal previous now = (now == .closed || previous != now) := by
  rw [Bool.eq_iff_iff, rushRenewal_iff]
  simp

theorem State.runBegins_air_of_off {s : State} (h : s.air.radio = .off) :
    s.runBegins.air = { s.air with radio := .active, lostSlots := 0, stage := .beaconSense 0 } := by
  simp [State.runBegins, State.startSweep, State.startCycle_air, AirLink.atCycleStart, h]

theorem State.runBegins_air_of_on {s : State} (h : s.air.radio ≠ .off) : s.runBegins.air = s.air.atCycleStart := by
  simp [State.runBegins, State.startSweep, State.startCycle_air, h]

/-! ## HALT (R24, R54, R175; log 26) -/

/-- HALT in progress, with the sweep timer stopped. -/
def State.haltBegins (s : State) : State :=
  { s with
    host := { s.host with lastCommand := 2#4, active := some .halt }
    unit := { s.unit with sweepTimer := none } }

theorem exec_halt {s : State} (hactive : s.host.active = none) (hrun : s.host.runState = .running) :
    exec .halt s =
      .next (if s.haltBegins.haltWalk.time.periodOver then s.haltBegins.haltWalk.completeHalt
        else s.haltBegins.haltWalk) := by
  have hexec : exec .halt s = .next (s.command Command.halt.code 0) := rfl
  have htaken : Command.halt.takenIn s.host.runState = true := by simp [Command.takenIn, hrun]
  rw [hexec, State.command_of_taken hactive htaken nofun]
  rfl

/-- HALT taken within a period, by what becomes of the walk. -/
theorem exec_halt_within {s t : State} (hactive : s.host.active = none) (hrun : s.host.runState = .running)
    (ht : s.haltBegins.haltWalk = t) (hwithin : t.time.periodOver = false) : exec .halt s = .next t := by
  rw [exec_halt hactive hrun, ht, if_neg (ne_true_of_eq_false hwithin)]

/-! ## The walk under HALT (R43, R63, R71, R81; logs 21, 41) -/

section Halting
variable {s : State} {w : Walk}

theorem State.haltWalk_of_none (h : s.walk = none) : s.haltWalk = s := by simp [State.haltWalk, h]

/-- A card in progress, or a turn stall, goes on. -/
theorem State.haltWalk_of_card (hw : s.walk = some w)
    (h : (∃ app r, w.phase = .turnStall app r) ∨ (∃ app, w.phase = .reading app) ∨ (∃ app st, w.phase = .writing app st)
      ∨ (∃ c m, w.phase = .iterating c m)) : s.haltWalk = s := by
  rcases h with ⟨app, r, h⟩ | ⟨app, h⟩ | ⟨app, st, h⟩ | ⟨c, m, h⟩ <;> simp only [State.haltWalk, hw, h]

theorem State.haltWalk_of_ready (hw : s.walk = some w) (h : w.phase = .ready) : s.haltWalk = s.cardBoundary := by
  simp only [State.haltWalk, hw, h]

theorem State.haltWalk_of_roomStall (hw : s.walk = some w) {app : Application} {r : Bool}
    (h : w.phase = .roomStall app r) : s.haltWalk = s.roomStall app := by simp only [State.haltWalk, hw, h]

/-- Under HALT the arbiter chooses nothing (R40, R81; log 21). -/
theorem State.arbitrate_of_halting (h : s.host.active = some .halt) : s.arbitrate = s :=
  (State.arbitrates_arbitrate s).1 (.inr (.inr (.inl h)))

/-- A walk at rest stops, its parking request lapsed, or is parked, and no walk starts. -/
theorem State.cardBoundary_of_halting (hhalt : s.host.active = some .halt) (hw : s.walk = some w)
    (hend : w.endRequest = none) (hrising : rising s.unit.tickets = true) :
    (¬ (w.parkRequest = true ∧ s.urgentWaits) → s.cardBoundary = s.withWalk (some { w with parkRequest := false }))
      ∧ ∀ k, w.parkRequest = true ∧ s.urgentWaits → s.ticket w.slot = some k → s.cardBoundary = s.parksWalk w k := by
  have hself : s.withWalk (some w) = s := State.withWalk_of_walk hw
  refine ⟨fun hnot => ?stops, fun k ⟨hpark, hwaits⟩ hk => ?parks⟩
  case stops =>
    cases hpark : w.parkRequest with
    | true =>
      have hlapse := (State.cardBoundary_of_parkRequest hend hpark hrising).1 fun hwaits => hnot ⟨hpark, hwaits⟩
      rwa [hself] at hlapse
    | false =>
      have hsame : { w with parkRequest := false } = w := by rw [← hpark]
      rw [hsame, hself]
      simp [State.cardBoundary, hw, hend, hpark]
  case parks =>
    have hparks := (State.cardBoundary_of_parkRequest hend hpark hrising).2 k hwaits hk
    rw [hself] at hparks
    exact hparks.1 (.inr (.inr (.inl hhalt)))

/-- A room stall stops with its card to be read again, or is parked so, and no walk starts. -/
theorem State.roomStall_of_halting (hhalt : s.host.active = some .halt) (hw : s.walk = some w)
    (hend : w.endRequest = none) (hrising : rising s.unit.tickets = true) (app : Application) :
    (¬ (w.parkRequest = true ∧ s.urgentWaits) →
        s.roomStall app = s.withWalk (some { w.stopsInRoom with parkRequest := false }))
      ∧ ∀ k, w.parkRequest = true ∧ s.urgentWaits → s.ticket w.slot = some k →
        s.roomStall app = s.parksWalk w.stopsInRoom k := by
  have hstopped : s.walkerRuns = false := by simp [State.walkerRuns, State.halting, hhalt]
  have hstall : s.roomStall app =
      if w.parkRequest = true ∧ s.urgentQueued = true then (s.withWalk (some w.stopsInRoom)).park
      else s.withWalk (some { w.stopsInRoom with parkRequest := false }) := by
    simp only [State.roomStall, hw, hend, hstopped, Walk.stopsInRoom_eq,
      Bool.and_eq_true, State.changeWalk, State.withWalk, Option.map_some, Bool.not_false, if_true]
  rw [hstall, ← State.urgentQueued_iff hrising]
  refine ⟨fun hnot => if_neg hnot, fun k hparks hk => ?_⟩
  have hslot : w.stopsInRoom.slot = w.slot := rfl
  rw [if_pos hparks, State.park_eq (s := s.withWalk (some w.stopsInRoom)) rfl (by rw [hslot]; exact hk)]
  exact State.arbitrate_of_halting hhalt

/-- A walker that is not RUNNING, or under HALT, takes no step. -/
theorem State.walkReady_of_stopped (h : s.host.runState ≠ .running ∨ s.host.active = some .halt) :
    s.walkReady = none := by
  have hstopped : s.walkerRuns = false := by
    rw [← Bool.not_eq_true, s.walkerRuns_iff]
    rintro ⟨hrun, hactive⟩
    exact h.elim (absurd hrun) hactive
  cases hw : s.walk <;> simp [State.walkReady, hw, hstopped]

end Halting

end Sys2Proof.Machine

namespace Sys2Proof.HostLinkAndStartUp
open Sys2Proof.Machine

/-- Settles O11: the first row of R174 that applies to each command. -/
theorem controlWritesAreRefusedInOrder : Obligations.ControlWritesAreRefusedInOrder := by
  refine ⟨fun s n k => ⟨fun a hactive ha i hi => ?lost, fun hactive hundefined => ?undefined⟩,
    fun s n hactive => ?refused⟩
  case lost =>
    simp only [controlWrites, List.mem_cons, List.not_mem_nil, or_false] at hi
    rcases hi with rfl | rfl | rfl | rfl | rfl | rfl | rfl | rfl <;>
      exact congrArg Host.Outcome.next (State.command_of_blocked hactive ha _ _)
  case undefined =>
    have hexec : exec (.undefinedCommand k) s = .next (s.command k 0) := rfl
    rw [hexec, State.command_of_undefined hundefined, State.commandBlocks_eq_false hactive]
    rfl
  case refused =>
    intro refused r
    have hjudge := State.command_of_free (State.commandBlocks_eq_false hactive)
    have hwrong : ∀ (c : Command) (m : Nat), c ≠ .reload → c.takenIn r = false →
        Host.Outcome.next (s.command c.code m) = refused c.code .wrongState := fun c m hc hnot =>
      congrArg _ ((hjudge c m).trans (State.judgeCommand_of_wrongState hc hnot m))
    have hneither : r ≠ .halted → r ≠ .running → (r == .halted || r == .running) = false := fun h h' => by simp [h, h']
    refine ⟨fun h => hwrong .run 0 nofun (beq_false_of_ne h), fun h => hwrong .halt 0 nofun (beq_false_of_ne h),
      fun h => hwrong .dropAll 0 nofun (beq_false_of_ne h), fun h h' => ⟨hwrong .pushAll 0 nofun (hneither h h'),
        hwrong .cancel n.toNat nofun (hneither h h'), hwrong .radioRestart 0 nofun (hneither h h')⟩,
      fun h hn => ?argument, fun h hset => ?noTime⟩
    case argument =>
      have htaken : Command.cancel.takenIn r = true := by rcases h with h | h <;> simp [Command.takenIn, h]
      exact congrArg _ ((hjudge .cancel n.toNat).trans (State.judgeCommand_of_badArgument htaken hn))
    case noTime =>
      have htaken : Command.run.takenIn r = true := by simp [Command.takenIn, h]
      exact congrArg _ ((hjudge .run 0).trans (State.judgeCommand_of_noTime htaken hset 0))

/-- Settles O12: the cycle start and the sweep of RUN, and the arbiter on the state they leave. -/
theorem runStartsScheduleAndSweep : Obligations.RunStartsScheduleAndSweep := by
  intro s hactive hrun hset renewal
  have hrenewal : rushRenewal s.time.cycleRush s.time.liveRush = renewal := rushRenewal_eq _ _
  refine ⟨(s.nameCommand 1#4).runBegins, _, exec_run hactive hrun hset, State.arbitrates_arbitrate _, ?_,
    State.runBegins_air_of_off, fun hfault hmark => ?_, fun hfault hmark => ?_⟩
  · rw [State.runBegins_eq, ← hrenewal]
    rfl
  · rw [State.runBegins_air_of_on (by simp [State.nameCommand, hfault])]
    exact AirLink.atCycleStart_of_marked hfault hmark
  · rw [State.runBegins_air_of_on (by simp [State.nameCommand, hfault])]
    exact AirLink.atCycleStart_of_unmarked hfault hmark

/-- Settles O13: HALT with no walk, the walk's boundary under HALT by its phase, and the halted walker. -/
theorem haltWaitsForThePeriodsEnd : Obligations.HaltWaitsForThePeriodsEnd := by
  refine ⟨fun s hactive hrun hnone => ?noWalk,
    fun s w hactive hrun hwithin hw hend hrising => ?walk, fun s hstopped => ?halted⟩
  case noWalk =>
    have hwalk : s.haltBegins.haltWalk = s.haltBegins := State.haltWalk_of_none hnone
    refine ⟨fun hwithin => exec_halt_within hactive hrun hwalk hwithin, fun hover =>
      ⟨s.haltBegins.completeHalt, ?_, rfl, rfl, rfl, rfl, rfl, rfl, rfl, rfl, rfl, rfl⟩⟩
    rw [exec_halt hactive hrun, hwalk]
    exact congrArg _ (if_pos hover)
  case walk =>
    intro h parks
    have hbegins : s.haltBegins = h := rfl
    refine ⟨fun hcard => exec_halt_within hactive hrun (State.haltWalk_of_card hw hcard) hwithin, fun hready => ?ready,
      fun app r hroom => ?roomStall⟩
    case ready =>
      have hboundary : h.haltWalk = h.cardBoundary := State.haltWalk_of_ready hw hready
      obtain ⟨hstops, hparks⟩ := State.cardBoundary_of_halting (s := h) rfl hw hend hrising
      exact ⟨fun hnot => exec_halt_within hactive hrun (hboundary.trans (hstops hnot)) hwithin,
        fun k hpark hk => exec_halt_within hactive hrun (hboundary.trans (hparks k hpark hk)) hwithin⟩
    case roomStall =>
      have hstall : h.haltWalk = h.roomStall app := State.haltWalk_of_roomStall (s := h) hw hroom
      obtain ⟨hstops, hparks⟩ := State.roomStall_of_halting (s := h) rfl hw hend hrising app
      exact ⟨fun hnot => exec_halt_within hactive hrun (hstall.trans (hstops hnot)) hwithin,
        fun k hpark hk => exec_halt_within hactive hrun (hstall.trans (hparks k hpark hk)) hwithin⟩
  case halted =>
    have hnone := State.walkReady_of_stopped hstopped
    exact ⟨by simp [exec, execCardRead, State.stepCard, hnone],
      by simp [exec, execSpanIteration, State.stepIteration, hnone]⟩

end Sys2Proof.HostLinkAndStartUp
end

section
/-! RELOAD and the Loader's check: the push begun, the faults of header and settings in their order, and the accepted
load (R27, R31, R169, R177, R179 to R183; logs 8, 49, 54, 56). -/

namespace Sys2Proof.Machine

/-! ## RELOAD (R31, R169, R180; logs 8, 49, 56) -/

section Reload
variable {s : State}

/-- The part RELOAD leaves before the Loader looks whether its push is over. -/
def State.reloadBegins (s : State) : State :=
  { s with
    host := { s.host with runState := .loading, lastCommand := 3#4, active := some .reload }
    time := s.time.atReload
    air := AirLink.reset
    unit := TicketUnit.reset
    walk := none
    roster := Roster.reset
    cache := s.cache.withdrawAll.markPending
    loader := .pushing }

theorem exec_reload_of_free (h : s.host.active = none ∨ s.host.active = some .reload) :
    exec .reload s = .next s.reloadBegins.finishLoaderPush :=
  congrArg Host.Outcome.next (State.command_of_free (State.commandBlocks_eq_false h) .reload 0)

/-- The end of the Loader's push changes the Loader's stage and the cache's lines, replacement and sweeper only. -/
theorem State.finishLoaderPush_frame (s : State) :
    s.finishLoaderPush =
      { s with
        loader := s.finishLoaderPush.loader
        cache := { s.cache with
          lines := s.finishLoaderPush.cache.lines
          replacement := s.finishLoaderPush.cache.replacement
          sweeper := s.finishLoaderPush.cache.sweeper } } := by
  unfold State.finishLoaderPush
  split <;> rfl

/-- A command that may not start leaves the enables, and RELOAD taken leaves them too (R177). -/
theorem exec_reload_enable (s : State) : ∃ t, exec .reload s = .next t ∧ t.host.enable = s.host.enable := by
  by_cases hfree : s.host.active = none ∨ s.host.active = some .reload
  · exact ⟨_, exec_reload_of_free hfree, by rw [State.finishLoaderPush_frame]; rfl⟩
  · obtain ⟨a, ha⟩ := Option.ne_none_iff_exists'.mp fun h => hfree (.inl h)
    have hother : a ≠ .reload := fun h => hfree (.inr (by rw [ha, h]))
    exact ⟨_, congrArg Host.Outcome.next (State.command_of_blocked ha hother 3#4 0), rfl⟩

end Reload

/-! ## The header's checks (R181, R182) -/

/-- Every area a header names is aligned and inside the RAM (R181). -/
theorem Header.inRange_iff (h : Header) :
    h.inRange = true ↔
      h.boardBase % 4096 = 0 ∧ h.boardBase + 4096 ≤ 4194304 ∧ h.directoryBase % 65536 = 0 ∧ h.directorySize % 64 = 0
        ∧ 64 ≤ h.directorySize ∧ h.directorySize ≤ 16384 ∧ h.directoryBase + 64 * h.directorySize ≤ 4194304
        ∧ h.settingsBase % 64 = 0 ∧ h.settingsBase + 64 ≤ 4194304 := by
  simp only [Header.inRange, Bool.and_eq_true, beq_iff_eq, decide_eq_true_eq, and_assoc]
  rfl

theorem areasMeet_eq_false_iff (a la b lb : Nat) : areasMeet a la b lb = false ↔ a + la ≤ b ∨ b + lb ≤ a := by
  simp [areasMeet]
  omega

/-- No two of the header, the board, the directory and the settings block meet (R181). -/
theorem Header.overlaps_eq_false_iff (h : Header) :
    h.overlaps = false ↔
      (0 + 64 ≤ h.boardBase ∨ h.boardBase + 4096 ≤ 0)
        ∧ (0 + 64 ≤ h.directoryBase ∨ h.directoryBase + 64 * h.directorySize ≤ 0)
        ∧ (0 + 64 ≤ h.settingsBase ∨ h.settingsBase + 64 ≤ 0)
        ∧ (h.boardBase + 4096 ≤ h.directoryBase ∨ h.directoryBase + 64 * h.directorySize ≤ h.boardBase)
        ∧ (h.boardBase + 4096 ≤ h.settingsBase ∨ h.settingsBase + 64 ≤ h.boardBase)
        ∧ (h.directoryBase + 64 * h.directorySize ≤ h.settingsBase ∨ h.settingsBase + 64 ≤ h.directoryBase) := by
  simp only [Header.overlaps, Bool.or_eq_false_iff, areasMeet_eq_false_iff, and_assoc]

section FaultCode
variable {h : Header}

theorem Header.faultCode_of_signature (hsign : h.signature ≠ Config.signature) : h.faultCode = .badSignature :=
  if_pos hsign

theorem Header.faultCode_of_layout (hsign : h.signature = Config.signature) (hlayout : h.layout ≠ 1#32) :
    h.faultCode = .badLayout := by simp [Header.faultCode, hsign, hlayout]

theorem Header.faultCode_of_range (hsign : h.signature = Config.signature) (hlayout : h.layout = 1#32)
    (hrange : ¬ h.inRange = true) : h.faultCode = .badRange := by simp [Header.faultCode, hsign, hlayout, hrange]

theorem Header.faultCode_of_overlap (hsign : h.signature = Config.signature) (hlayout : h.layout = 1#32)
    (hrange : h.inRange = true) (hmeet : ¬ h.overlaps = false) : h.faultCode = .overlap := by
  simp [Header.faultCode, hsign, hlayout, hrange, hmeet]

theorem Header.faultCode_of_good (hsign : h.signature = Config.signature) (hlayout : h.layout = 1#32)
    (hrange : h.inRange = true) (hmeet : h.overlaps = false) : h.faultCode = .none := by
  simp [Header.faultCode, hsign, hlayout, hrange, hmeet]

end FaultCode

/-! ## The end of a load in LOAD_FAULT (R181 to R183; log 54) -/

section Faults
variable {s : State}

theorem State.anyFaulty_header (s : State) :
    s.ram.anyFaulty 0 16 = false ↔ ∀ j < 16, s.ram.faulty (4 * j) = false := by
  simp [Ram.anyFaulty_eq_false_iff]

/-- What a load that fails with a code and these causes makes of the part. -/
def State.loadFails (s : State) (code : LoadFaultCode) (causes : BitVec 9) : State :=
  { s with
    loader := .idle
    host := { s.host with
      runState := .loadFault
      loadFault := code
      lastCommand := 3#4
      lastResult := .done
      active := none
      attention := s.host.attention ||| causes } }

theorem State.failLoad_eq (s : State) (code : LoadFaultCode) : s.failLoad code = s.loadFails code 0x002#9 := rfl

/-- A fault of memory latches MEMORY_FAULT beside LOAD_FAULT. -/
theorem State.failLoad_memory (s : State) :
    (s.failLoad .memory).latch .memoryFault = s.loadFails .memory 0x012#9 := by
  simp only [State.failLoad_eq, State.loadFails, State.latch, State.onHost, BitVec.or_assoc]
  rfl

theorem exec_loadCheck_of_due (hrun : s.host.runState = .loading) (hloader : s.loader = .checking) :
    exec .loadCheck s = .next s.checkLoad := by
  have hdue : s.loadCheckDue = true := by simp [State.loadCheckDue, hrun, hloader]
  exact congrArg Host.Outcome.next (if_pos hdue)

theorem State.checkLoad_of_unreadable (h : ¬ ∀ j < 16, s.ram.faulty (4 * j) = false) :
    s.checkLoad = s.loadFails .memory 0x012#9 := by
  rw [← s.anyFaulty_header, Bool.not_eq_false] at h
  exact (if_pos h).trans s.failLoad_memory

theorem State.checkLoad_of_code (hread : ∀ j < 16, s.ram.faulty (4 * j) = false) {code : LoadFaultCode}
    (hcode : s.readHeader.faultCode = code) (hfault : code ≠ .none) : s.checkLoad = s.loadFails code 0x002#9 := by
  rw [State.checkLoad, s.anyFaulty_header.mpr hread, hcode]
  cases code with
  | none => exact absurd rfl hfault
  | _ => rfl

theorem State.checkLoad_of_accepted (hread : ∀ j < 16, s.ram.faulty (4 * j) = false)
    (hcode : s.readHeader.faultCode = .none) : s.checkLoad = s.loadSettings s.readHeader := by
  rw [State.checkLoad, s.anyFaulty_header.mpr hread, hcode]
  rfl

theorem State.loadSettings_of_unreadable {h : Header}
    (hread : ¬ ∀ j < 16, s.ram.faulty (h.settingsBase + 4 * j) = false) :
    s.loadSettings h = s.loadFails .memory 0x012#9 := by
  rw [← Ram.anyFaulty_eq_false_iff, Bool.not_eq_false] at hread
  exact (if_pos hread).trans s.failLoad_memory

theorem State.loadSettings_of_channel {h : Header} (hread : ∀ j < 16, s.ram.faulty (h.settingsBase + 4 * j) = false)
    (hchannel : 15 < s.storedChannel h.settingsBase) : s.loadSettings h = s.loadFails .badChannel 0x002#9 := by
  rw [← Ram.anyFaulty_eq_false_iff] at hread
  exact (if_neg (ne_true_of_eq_false hread)).trans (if_pos hchannel)

end Faults

/-! ## The accepted load (R27, R179, R182, R183) -/

/-- A board with nothing to act on is left as it stands. -/
theorem State.loadSweep_of_kept {s : State} {base : Nat}
    (h : ∀ n < 32, s.ram.faulty (base + 128 * n) = false
      ∧ (s.ram.word (base + 128 * n) = 0#32 ∨ s.ram.word (base + 128 * n) = 1#32
        ∨ s.ram.word (base + 128 * n) = 5#32)) :
    s.loadSweep base = s :=
  List.foldlRecOn (motive := (· = s)) _ _ rfl fun _ hsame n hn => by
    obtain ⟨hgood, hkept⟩ := h n (List.mem_range.mp hn)
    rw [hsame, State.loadSweepSlot_of_kept hgood hkept]

theorem clamp_eq_ite {lo hi : Nat} (h : lo ≤ hi) (x : Nat) :
    max lo (min hi x) = if x < lo then lo else if hi < x then hi else x := by
  split
  · omega
  · split <;> omega

/-- The live rush state a load leaves is the window's at the store time. -/
theorem State.completeLoad_liveRush (s : State) (l : Load) :
    (s.completeLoad l).time.liveRush =
      if s.time.timeSet then rushAt l.rushStart l.rushEnd s.time.storeTime else .closed := rfl

end Sys2Proof.Machine

namespace Sys2Proof.HostLinkAndStartUp
open Sys2Proof.Machine

/-- Settles O14: the cleared blocks by the frame of the push's end, and the cache by what there is to push. -/
theorem reloadClearsTheChip : Obligations.ReloadClearsTheChip := by
  intro s hfree
  refine ⟨_, exec_reload_of_free hfree, ?_⟩
  rw [State.finishLoaderPush_frame]
  refine ⟨rfl, rfl, rfl, rfl, rfl, rfl, rfl, rfl, rfl, rfl, rfl, rfl, rfl, rfl, rfl, rfl,
    fun hpush => ?waits, fun hfill hbuffer hclean => ?done⟩
  case waits =>
    have hwaits : s.reloadBegins.finishLoaderPush = s.reloadBegins := by
      refine State.finishLoaderPush_of_waits (hpush.imp (fun hfill => ?_) fun hdirty => ?_)
      · rwa [← Option.isSome_map (f := fun f : Fill => { f with request := none })] at hfill
      · exact Cache.markPending_anyPending (c := s.cache.withdrawAll) (.inl hdirty)
    rw [hwaits]
    exact ⟨rfl, rfl, s.cache.withdrawAll.markPending_lines⟩
  case done =>
    have hmarked : s.cache.withdrawAll.markPending = { s.cache.withdrawAll with sweeper := some 0 } :=
      Cache.markPending_of_clean (fun p hp => (hclean p hp).1) hbuffer
    have hpending : s.reloadBegins.cache.anyPending = false := by
      rw [State.reloadBegins, hmarked]
      exact Cache.anyPending_eq_false (fun p hp => (hclean p hp).2) hbuffer
    have hnone : s.reloadBegins.cache.fill = none := Option.map_eq_none_iff.mpr hfill
    rw [State.finishLoaderPush_of_done rfl hnone hpending]
    exact ⟨rfl, rfl, rfl⟩

/-- Settles O20: the output by its bits, and RELOAD taken or lost. -/
theorem enablesFilterTheAttentionOutput : Obligations.EnablesFilterTheAttentionOutput := fun s _ =>
  ⟨rfl, s.attentionOutput_iff, zeroExtend_causes _, zeroExtend_causes _, rfl, ⟨_, rfl, rfl⟩, exec_reload_enable s⟩

/-- Settles O48: the first check that fails, in the order of R181 and log 54. -/
theorem headerFaultsEndTheLoad : Obligations.HeaderFaultsEndTheLoad := by
  intro s hrun hloader w n readable inRange apart d disjoint settingsReadable ends
  have hends : ∀ {code : LoadFaultCode} {causes : BitVec 9}, s.checkLoad = s.loadFails code causes → ends code causes :=
    fun h => (exec_loadCheck_of_due hrun hloader).trans (congrArg _ h)
  have hrange : s.readHeader.inRange = true ↔ inRange := s.readHeader.inRange_iff
  have hapart : s.readHeader.overlaps = false ↔ disjoint := s.readHeader.overlaps_eq_false_iff
  refine ⟨fun hread => hends (State.checkLoad_of_unreadable hread),
    fun hread hsign => hends (State.checkLoad_of_code hread (Header.faultCode_of_signature hsign) nofun),
    fun hread hsign hlayout => hends (State.checkLoad_of_code hread (Header.faultCode_of_layout hsign hlayout) nofun),
    fun hread hsign hlayout hout => hends (State.checkLoad_of_code hread
      (Header.faultCode_of_range hsign hlayout fun h => hout (hrange.mp h)) nofun),
    fun hread hsign hlayout hin hmeet => hends (State.checkLoad_of_code hread
      (Header.faultCode_of_overlap hsign hlayout (hrange.mpr hin) fun h => hmeet (hapart.mp h)) nofun),
    fun hread hsign hlayout hin hdisjoint => ?accepted⟩
  have haccepted : s.checkLoad = s.loadSettings s.readHeader := State.checkLoad_of_accepted hread
    (Header.faultCode_of_good hsign hlayout (hrange.mpr hin) (hapart.mpr hdisjoint))
  exact ⟨fun hbad => hends (haccepted.trans (State.loadSettings_of_unreadable hbad)),
    fun hgood hchannel => hends (haccepted.trans (State.loadSettings_of_channel hgood hchannel))⟩

/-- Settles O49: the settings read, the clamps, and the window table on the new window. -/
theorem loadsPutSettingsInEffect : Obligations.LoadsPutSettingsInEffect := by
  intro s hrun hloader hheader hcode n b hsettings hchannel hboard
  have hload := exec_loadCheck hrun hloader hheader hcode hsettings hchannel
  rw [State.loadSweep_of_kept hboard] at hload
  have hrush := s.completeLoad_liveRush (s.readSettings s.readHeader)
  refine ⟨_, _, hload, rfl, rfl, rfl, rfl, rfl, rfl, rfl, (clamp_eq_ite (by omega) _).trans ?limit,
    clamp_eq_ite (by omega) _, rfl, rfl, rfl, rfl, rfl, rfl, State.completeLoad_eq _ _, ?rush⟩
  case limit => simp only [Nat.lt_one_iff]; rfl
  case rush =>
    intro first last u day
    refine ⟨fun hclosed => ?_, fun hset hlt hlast => ?_, fun hset hgt hfirst => ?_⟩
    · rcases hclosed with hunset | hinvalid
      · rw [hrush, hunset]
        rfl
      · exact hrush.trans ((congrArg (ite _ · _) (rushAt_of_invalid hinvalid _)).trans (ite_self _))
    · exact (hrush.trans (if_pos hset)).trans (rushAt_of_lt hlt hlast _)
    · exact (hrush.trans (if_pos hset)).trans (rushAt_of_gt hgt hfirst _)

end Sys2Proof.HostLinkAndStartUp
end

section
/-! The resume area: the place of each part of a walk context in its eight words, and the walk that they hold (R43, R44, R61,
R186, R187; logs 24, 39, 53). -/

namespace Sys2Proof.Machine

/-! ## Links in a word (R59, R186) -/

theorem linkOfBits_toBits (l : Link) : linkOfBits l.toBits = l := by
  have hform : ∀ (c : BitVec 2) (x : BitVec 17), (c ++ x : BitVec 19).extractLsb' 17 2 = c := fun _ _ =>
    BitVec.extractLsb'_append_eq_left
  have hvalue : ∀ (c : BitVec 2) (x : BitVec 17), (c ++ x : BitVec 19).extractLsb' 0 17 = x := fun _ _ =>
    BitVec.extractLsb'_append_eq_right
  cases l with
  | null => rfl
  | short x =>
    have hbits : (Link.short x).toBits = (1#2 ++ (0#1 ++ x : BitVec 17) : BitVec 19) := BitVec.append_assoc
    have hlow : (1#2 ++ (0#1 ++ x : BitVec 17) : BitVec 19).extractLsb' 0 16 = x :=
      (BitVec.extractLsb'_append_eq_of_add_le (by decide)).trans BitVec.extractLsb'_append_eq_right
    rw [hbits, linkOfBits, hform, hlow]
    rfl
  | long x =>
    rw [Link.toBits, linkOfBits, hform, hvalue]
    rfl
  | undefinedForm x =>
    rw [Link.toBits, linkOfBits, hform, hvalue]
    rfl

/-- A link is read from the low bits of its word, whatever stands above it. -/
theorem linkOfWord_append (hi : BitVec 13) (l : Link) : linkOfWord (hi ++ l.toBits : BitVec 32) = l := by
  rw [linkOfWord, BitVec.extractLsb'_append_eq_right, linkOfBits_toBits]

/-! ## The first word (R187) -/

/-- The top eight bits of the first word: the marks and the depth of the span frame, 0 with no span. -/
def Walk.spanMarks (w : Walk) : BitVec 8 :=
  match w.span with
  | none => 0#8
  | some f =>
    0#1 ++ BitVec.ofBool f.exit.isSome ++ BitVec.ofBool f.startDepartment.isSome ++ BitVec.ofBool f.untilDepartment
      ++ BitVec.ofNat 3 f.depth ++ 1#1

theorem Walk.resumeWords_head (w : Walk) :
    recordWord w.resumeWords 0 =
      (w.spanMarks ++ BitVec.ofNat 3 w.stack.length ++ w.next.code ++ w.link.toBits : BitVec 32) := by
  cases hspan : w.span <;> simp only [Walk.resumeWords, Walk.spanMarks, hspan] <;> rfl

theorem Walk.resumeWords_link (w : Walk) : linkOfWord (recordWord w.resumeWords 0) = w.link := by
  rw [w.resumeWords_head]
  exact linkOfWord_append _ _

theorem Walk.resumeWords_next (w : Walk) : (recordWord w.resumeWords 0).extractLsb' 19 2 = w.next.code := by
  rw [w.resumeWords_head, BitVec.extractLsb'_append_eq_of_le (by decide)]
  exact BitVec.extractLsb'_append_eq_right

theorem Walk.resumeWords_depth {w : Walk} (hstack : w.stack.length ≤ 4) :
    ((recordWord w.resumeWords 0).extractLsb' 21 3).toNat = w.stack.length := by
  rw [w.resumeWords_head, BitVec.extractLsb'_append_eq_of_le (by decide), BitVec.extractLsb'_append_eq_of_le (by decide)]
  exact (congrArg BitVec.toNat BitVec.extractLsb'_append_eq_right).trans (Nat.mod_eq_of_lt (by omega))

/-- The marks of the span frame stand in the first word from bit 24 on. -/
theorem Walk.resumeWords_marks (w : Walk) (lo len : Nat) :
    (recordWord w.resumeWords 0).extractLsb' (24 + lo) len = w.spanMarks.extractLsb' lo len := by
  rw [w.resumeWords_head]
  iterate 3 rw [BitVec.extractLsb'_append_eq_of_le (by omega)]
  congr 1
  omega

theorem Walk.resumeWords_mark (w : Walk) (i : Nat) :
    (recordWord w.resumeWords 0).getLsbD (24 + i) = w.spanMarks.getLsbD i := by
  simpa [BitVec.getLsbD_extractLsb'] using congrArg (BitVec.getLsbD · 0) (w.resumeWords_marks i 1)

theorem Walk.spanMarks_of_none {w : Walk} (hspan : w.span = none) : w.spanMarks = 0#8 := by
  simp only [Walk.spanMarks, hspan]

/-- The marks of a span frame that is present: its depth, the until-department flag, and whether start department and exit
link are known. -/
theorem Walk.spanMarks_of_some {w : Walk} {f : SpanFrame} (hspan : w.span = some f) :
    w.spanMarks.getLsbD 0 = true ∧ w.spanMarks.extractLsb' 1 3 = BitVec.ofNat 3 f.depth
      ∧ w.spanMarks.getLsbD 4 = f.untilDepartment ∧ w.spanMarks.getLsbD 5 = f.startDepartment.isSome
      ∧ w.spanMarks.getLsbD 6 = f.exit.isSome := by
  simp only [Walk.spanMarks, hspan]
  refine ⟨?_, ?depth, ?_, ?_, ?_⟩
  case depth => exact (BitVec.extractLsb'_append_eq_of_le (by decide)).trans BitVec.extractLsb'_append_eq_right
  all_goals
    repeat rw [BitVec.getLsbD_append]
    simp

theorem Walk.resumeWords_present (w : Walk) : (recordWord w.resumeWords 0).getLsbD 24 = w.span.isSome := by
  refine (w.resumeWords_mark 0).trans ?_
  cases hspan : w.span with
  | none => rw [Walk.spanMarks_of_none hspan]; rfl
  | some f =>
    obtain ⟨hpresent, -⟩ := Walk.spanMarks_of_some hspan
    exact hpresent

/-! ## The include stack (R76, R187) -/

/-- The include stack stands in the words 1 to 4, the entry pushed first in word 1. -/
theorem Walk.resumeWords_stack {w : Walk} (hstack : w.stack.length ≤ 4) {j : Nat} (hj : j < w.stack.length) :
    some (linkOfWord (recordWord w.resumeWords (j + 1))) = w.stack.reverse[j]? := by
  have hword : ∃ hi : BitVec 13, recordWord w.resumeWords (j + 1) = (hi ++ stackBits w.stack j : BitVec 32) := by
    have hplace : j < 4 := by omega
    cases hspan : w.span <;> simp only [Walk.resumeWords, hspan] <;>
      match j, hplace with
      | 0, _ | 1, _ | 2, _ | 3, _ => exact ⟨_, rfl⟩
  obtain ⟨hi, hword⟩ := hword
  have hentry : w.stack.reverse[j]? = some (w.stack.reverse[j]'(by simpa using hj)) := List.getElem?_eq_getElem _
  rw [hword, stackBits, hentry]
  exact congrArg some (linkOfWord_append hi _)

/-- The links read from the words of the include stack are its entries in push order. -/
theorem Walk.resumeWords_stack_map {w : Walk} (hstack : w.stack.length ≤ 4) :
    (List.range w.stack.length).map (fun j => linkOfWord (recordWord w.resumeWords (j + 1))) = w.stack.reverse := by
  refine List.ext_getElem? fun j => ?_
  by_cases hj : j < w.stack.length
  · simp only [List.getElem?_map, List.getElem?_range hj, Option.map_some, w.resumeWords_stack hstack hj]
  · rw [List.getElem?_eq_none (by simpa using hj), List.getElem?_eq_none (by simpa using hj)]

/-! ## The span frame (R77, R187) -/

section Span

variable {w : Walk} {f : SpanFrame}

theorem Walk.resumeWords_remaining (hspan : w.span = some f) (h : f.remaining < 2 ^ 13) :
    ((recordWord w.resumeWords 1).extractLsb' 19 13).toNat = f.remaining := by
  simp only [Walk.resumeWords, hspan]
  exact (congrArg BitVec.toNat BitVec.extractLsb'_append_eq_left).trans (Nat.mod_eq_of_lt h)

theorem Walk.resumeWords_body (hspan : w.span = some f) : linkOfWord (recordWord w.resumeWords 5) = f.body := by
  simp only [Walk.resumeWords, hspan]
  exact linkOfWord_append _ _

theorem Walk.resumeWords_stride (hspan : w.span = some f) (h : f.stride < 2 ^ 7) :
    ((recordWord w.resumeWords 5).extractLsb' 19 7).toNat = f.stride := by
  have hplace : (recordWord w.resumeWords 5).extractLsb' 19 7 = BitVec.ofNat 7 f.stride := by
    simp only [Walk.resumeWords, hspan]
    exact (BitVec.extractLsb'_append_eq_of_le (by decide)).trans BitVec.extractLsb'_append_eq_right
  rw [hplace]
  exact Nat.mod_eq_of_lt h

theorem Walk.resumeWords_exit (hspan : w.span = some f) {l : Link} (hexit : f.exit = some l) :
    linkOfWord (recordWord w.resumeWords 6) = l := by
  simp only [Walk.resumeWords, hspan, hexit]
  exact linkOfWord_append _ _

theorem Walk.resumeWords_startDepartment (hspan : w.span = some f) {d : BitVec 8} (hstart : f.startDepartment = some d) :
    (recordWord w.resumeWords 6).extractLsb' 19 8 = d := by
  simp only [Walk.resumeWords, hspan, hstart]
  exact (BitVec.extractLsb'_append_eq_of_le (by decide)).trans BitVec.extractLsb'_append_eq_right

theorem Walk.resumeWords_start (hspan : w.span = some f) (h : f.start < 2 ^ 14) :
    ((recordWord w.resumeWords 7).extractLsb' 0 14).toNat = f.start := by
  simp only [Walk.resumeWords, hspan]
  exact (congrArg BitVec.toNat BitVec.extractLsb'_append_eq_right).trans (Nat.mod_eq_of_lt h)

theorem Walk.resumeWords_current (hspan : w.span = some f) (h : f.current < 2 ^ 15) :
    ((recordWord w.resumeWords 7).extractLsb' 14 15).toNat = f.current := by
  have hplace : (recordWord w.resumeWords 7).extractLsb' 14 15 = BitVec.ofNat 15 f.current := by
    simp only [Walk.resumeWords, hspan]
    exact (BitVec.extractLsb'_append_eq_of_le (by decide)).trans BitVec.extractLsb'_append_eq_right
  rw [hplace]
  exact Nat.mod_eq_of_lt h

theorem Walk.resumeWords_spanDepth (hspan : w.span = some f) (h : f.depth < 2 ^ 3) :
    ((recordWord w.resumeWords 0).extractLsb' 25 3).toNat = f.depth := by
  obtain ⟨-, hmark, -⟩ := Walk.spanMarks_of_some hspan
  rw [w.resumeWords_marks 1 3, hmark]
  exact Nat.mod_eq_of_lt h

end Span

/-! ## The walk of a resume area (R44, R187) -/

theorem spanOfResume_resumeWords {w : Walk} (h : w.fits) : spanOfResume w.resumeWords = w.span := by
  obtain ⟨-, -, -, hranges⟩ := h
  cases hspan : w.span with
  | none =>
    simp only [spanOfResume, bitAt, w.resumeWords_present, hspan, Option.isSome_none, Bool.false_eq_true, if_false]
  | some f =>
    obtain ⟨hstart, hremaining, hstride, hcurrent, hdepth⟩ := hranges f hspan
    obtain ⟨-, -, huntil, hdepartment, hexit⟩ := Walk.spanMarks_of_some hspan
    have hdepartments : (if f.startDepartment.isSome = true then some ((recordWord w.resumeWords 6).extractLsb' 19 8)
        else none) = f.startDepartment := by
      cases hd : f.startDepartment with
      | none => rfl
      | some d => simp [Walk.resumeWords_startDepartment hspan hd]
    have hexits : (if f.exit.isSome = true then some (linkOfWord (recordWord w.resumeWords 6)) else none) = f.exit := by
      cases hl : f.exit with
      | none => rfl
      | some l => simp [Walk.resumeWords_exit hspan hl]
    simp only [spanOfResume, bitAt, bitsOf, w.resumeWords_present, hspan, Option.isSome_some, if_true,
      Walk.resumeWords_start hspan hstart, Walk.resumeWords_remaining hspan hremaining,
      Walk.resumeWords_stride hspan hstride, Walk.resumeWords_current hspan hcurrent,
      Walk.resumeWords_spanDepth hspan hdepth, Walk.resumeWords_body hspan, (w.resumeWords_mark 4).trans huntil,
      (w.resumeWords_mark 5).trans hdepartment, (w.resumeWords_mark 6).trans hexit, hdepartments, hexits]

/-- A walk resumed from the eight words of its parking is that walk, with no request held (log 39 for its body). -/
theorem walkOfResume_resumeWords {w : Walk} (h : w.fits) (n : Nat) :
    walkOfResume n w.resumeWords =
      { w with slot := n, parkRequest := false, endRequest := none, fresh := false, phase := .ready } := by
  have ⟨hstack, hiterates, hbody, _⟩ := h
  have hdepth : min 4 w.stack.length = w.stack.length := Nat.min_eq_right hstack
  simp only [walkOfResume, bitsOf, spanOfResume_resumeWords h, w.resumeWords_link, w.resumeWords_next,
    Walk.resumeWords_depth hstack, hdepth, Walk.resumeWords_stack_map hstack, List.reverse_reverse, hbody]
  cases hnext : w.next with
  | nextCard => rfl
  | repeatCard => rfl
  | nextIteration => simp only [hiterates hnext, if_true]; rfl

end Sys2Proof.Machine
end

section
/-! The parking of a walk at the boundary after a card, and the ends of a walk: the reads that end it, and the places from
which it goes nowhere (R42, R43, R60, R62, R63, R75, R76, R80, R83; logs 17, 19, 20). -/

namespace Sys2Proof.Machine

/-! ## The boundary after a MARK (R42, R63, R74) -/

/-- A ticket rewritten under its class and state leaves it open or shut as it was whether an URGENT one waits (R42). -/
theorem State.urgentWaits_put {s t : State} {n : Nat} {k j : Ticket} (hk : s.ticket n = some k) (hcls : j.cls = k.cls)
    (hstate : j.state = k.state) (htickets : t.unit.tickets = assocPut n j s.unit.tickets) :
    t.urgentWaits ↔ s.urgentWaits := by
  have hself : t.ticket n = some j := by rw [State.ticket, htickets, assocFind_put_self]
  have hother : ∀ {m}, m ≠ n → t.ticket m = s.ticket m := fun hm => by
    rw [State.ticket, htickets, assocFind_put_ne hm, State.ticket]
  constructor
  · rintro ⟨m, i, hi, hurgent, hqueued⟩
    by_cases hm : m = n
    · subst hm
      obtain rfl : j = i := Option.some.inj (hself.symm.trans hi)
      exact ⟨m, k, hk, hcls ▸ hurgent, hstate ▸ hqueued⟩
    · exact ⟨m, i, hother hm ▸ hi, hurgent, hqueued⟩
  · rintro ⟨m, i, hi, hurgent, hqueued⟩
    by_cases hm : m = n
    · subst hm
      obtain rfl : k = i := Option.some.inj (hk.symm.trans hi)
      exact ⟨m, j, hself, hcls ▸ hurgent, hstate ▸ hqueued⟩
    · exact ⟨m, i, (hother hm).trans hi, hurgent, hqueued⟩

/-- A card that is no body of a span is followed by its next link (R58, R59). -/
theorem Walk.afterward_of_plain {w : Walk} (hbody : w.body = false) (l : Link) :
    w.afterward l = if l = .null then w.endsLevel else some (w.goesOnAt l) := by
  cases hspan : w.span <;> simp [Walk.afterward, hspan, hbody]

/-- The ticket once the walk has read a MARK: the card counted, and its tag kept (R62, R74). -/
def Ticket.marks (k : Ticket) (counted : Bool) (number : Nat) (tag : Word) : Ticket :=
  { k.hasRead counted number with progressMark := tag }

/-- The state once the walk has read a MARK: the card counted, and its tag on chip and on the board (R62, R74). -/
def State.marks (s : State) (w : Walk) (k : Ticket) (number : Nat) : State :=
  { s.hasRead w k number with
    ram := (s.hasRead w k number).ram.setWord (s.ticketOffset w.slot 16) (s.readCard number).w8
    unit := { s.unit with
      tickets := assocPut w.slot (k.marks (w.next != .repeatCard) number (s.readCard number).w8) s.unit.tickets } }

/-- A card that is no body of a span acts on the walk as it stands (R58, R62). -/
theorem State.BeforeCard.stepCard_acts {s : State} {w : Walk} {k : Ticket} {number : Nat}
    (h : s.BeforeCard w k w.link number) (hnext : w.next ≠ .nextIteration) (hbody : w.body = false) :
    (s.hasRead w k number).actsOnCard s.stepCard w (k.hasRead (w.next != .repeatCard) number) (s.readCard number)
      number := by
  rw [h.stepCard hnext, Walk.reads_eq, hbody]
  exact State.actOnCard_acts (s.hasRead_ticket w k number) (Ticket.hasRead_tallies h.ready.tallies _ number) _ number

/-- A MARK that is no body of a span reaches its boundary once it is counted and its tag stands (R63, R74). -/
theorem State.BeforeCard.mark_reaches {s : State} {w : Walk} {k : Ticket} {number : Nat}
    (h : s.BeforeCard w k w.link number) (hnext : w.next ≠ .nextIteration) (hbody : w.body = false)
    (hcode : ((s.readCard number).w0.extractLsb' 0 8).toNat = 7) :
    (s.marks w k number).reaches s.stepCard w (w.afterward (linkOfWord (s.readCard number).w4)) := by
  obtain ⟨-, -, -, -, -, -, hmark, -⟩ := h.stepCard_acts hnext hbody
  have hput : assocPut w.slot (k.marks (w.next != .repeatCard) number (s.readCard number).w8)
      (s.hasRead w k number).unit.tickets = assocPut w.slot _ s.unit.tickets := assocPut_put w.slot _ _ s.unit.tickets
  rw [State.marks, ← hput]
  exact hmark hcode

/-! ## Reads that end the walk (R60, R62, R83) -/

theorem State.walkStopsAtCard_of_reaches {s t : State} {w : Walk} (h : s.reaches t w none) :
    s.walkStopsAtCard t w .complete .none none 0#9 := by
  cases hend : w.endRequest <;> simpa only [State.reaches, State.walkStopsAtCard, hend] using h

/-- A walk that ends on a parity fault ends as any other does, with MEMORY_FAULT latched before (R83). -/
theorem State.endWalkAtCard_memoryFault_stops {s : State} {w : Walk} (hw : s.walk = some w) (stop : Option Nat) :
    s.walkStopsAtCard ((s.latch .memoryFault).endWalkAtCard .abridged .memory stop) w .abridged .memory stop 0x010#9 := by
  have hends : ∀ (o : TicketOutcome) (r : Reason) (stop : Option Nat),
      s.walkStops ((s.latch .memoryFault).endWalk o r stop) w o r stop 0x010#9 := by
    intro o r stop k hmay
    have hover : (s.latch .memoryFault).withWalk none = (s.withWalk none).walkOver w.slot k k.state [] 0x010#9 := by
      simp [State.walkOver, assocPut_of_find hmay.held.1 hmay.held.2]
      rfl
    refine ⟨((s.latch .memoryFault).withWalk none).endTicketWalk w.slot o r stop, ?_, ?_⟩
    · rw [hover]
      exact State.endTicketWalk_endsWalk (State.withWalk_mayEnd hmay) k.state o r stop 0x010#9 (by simp)
    · have hlatched : (s.latch .memoryFault).walk = some w := hw
      simp only [State.endWalk, hlatched]
      exact State.arbitrates_arbitrate _
  have hlatched : (s.latch .memoryFault).walk = some w := hw
  cases hend : w.endRequest <;>
    simpa only [State.walkStopsAtCard, State.endWalkAtCard, hlatched, hend] using hends _ _ _

section Ready

variable {s : State} {w : Walk} {k : Ticket}

theorem State.meetsFixed_of_resolves {base m : Nat} {l : Link} (hcard : s.resolveLink base l = .card m) :
    s.meetsFixed (32 * m) 32 = false := by
  have htarget : ∀ {number}, s.cardTarget number = .card m → s.meetsFixed (32 * m) 32 = false := fun {number} h => by
    rw [State.cardTarget] at h
    split at h
    case isTrue => contradiction
    case isFalse =>
      split at h
      case isTrue => contradiction
      case isFalse hmeets =>
        obtain rfl := LinkTarget.card.inj h
        exact Bool.not_eq_true _ ▸ hmeets
  cases l with
  | null | undefinedForm => contradiction
  | short | long => exact htarget hcard

/-- A card that a link leads to lies off the board of a loaded part, so that the count of its read leaves the parity of its
words (R60, R179). -/
theorem State.WalkerReady.hasRead_faulty_of_resolves (h : s.WalkerReady w k) (hheld : s.loadHeld = true) {base m j : Nat}
    {l : Link} (hcard : s.resolveLink base l = .card m) (hj : j < 8) :
    (s.hasRead w k m).ram.faulty (32 * m + 4 * j) = s.ram.faulty (32 * m + 4 * j) := by
  obtain ⟨load, hload⟩ : ∃ load, s.load = some load :=
    Option.isSome_iff_exists.mp (by simpa [State.loadHeld, h.running] using hheld)
  have hmeets : load.meetsFixed (32 * m) 32 = false := by
    simpa [State.meetsFixed, hload] using State.meetsFixed_of_resolves hcard
  have hboard : areasMeet (32 * m) 32 s.boardBase 4096 = false := by
    simp only [Load.meetsFixed, Bool.or_eq_false_iff] at hmeets
    obtain ⟨⟨⟨-, hboard⟩, -⟩, -⟩ := hmeets
    simpa [State.boardBase, hload] using hboard
  have hapart : (32 * m + 4 * j) / 4 ≠ s.ticketOffset w.slot 24 / 4 := by
    have hslot := h.slot
    rw [areasMeet_eq_false_iff] at hboard
    simp only [State.ticketOffset]
    omega
  simp only [State.hasRead]
  split
  · rw [Ram.faulty_setWord, if_neg hapart]
  · rfl

/-- The read of a card whose limit is not reached: its count, then its words, unless one of them is faulty (R62). -/
theorem State.WalkerReady.fetchCard_of_card (h : s.WalkerReady w k) {l : Link} {m : Nat}
    (hcard : s.resolveLink k.chainBase l = .card m) (hlimit : w.next ≠ .repeatCard → (k.count 0).toNat < k.cardLimit) :
    s.fetchCard l (w.next != .repeatCard) =
      if (s.hasRead w k m).ram.anyFaulty (32 * m) 8 then
        .ended (((s.hasRead w k m).latch .memoryFault).endWalkAtCard .abridged .memory (some m))
      else .card (s.hasRead w k m) (s.readCard m) m := by
  have hbelow : ¬ ((w.next != .repeatCard) = true ∧ k.cardLimit ≤ (k.tally .cardsRead).toNat) :=
    fun ⟨hcounted, hreached⟩ => Nat.not_lt.mpr hreached (hlimit (by simpa using hcounted))
  have hslot : (if (w.next != .repeatCard) = true then s.countTally w.slot .cardsRead else s).walkSlot = w.slot := by
    split
    · rw [State.walkSlot, (s.countTally_roster w.slot .cardsRead).2, ← State.walkSlot, h.walkSlot]
    · exact h.walkSlot
  simp only [State.fetchCard, h.walkTicket, hcard, hbelow, if_false, h.walkSlot, hslot, h.hasRead_eq m,
    h.hasRead_readCard m]

/-- A step that stands where its read ends the walk has the end that R83 gives: a bad link before anything is counted, a card
limit reached before the card is read, a faulty card once it is counted (R60, R62; logs 17, 20). -/
theorem State.WalkerReady.readsEnd_of_fetch (h : s.WalkerReady w k) {l : Link} {t : State}
    (hended : ∀ u, s.fetchCard l (w.next != .repeatCard) = .ended u → t = u) : s.readsEnd w k l (.next t) := by
  refine ⟨fun hbad => ⟨t, rfl, ?bad⟩, fun m hcard =>
    ⟨fun hcounted hreached => ⟨t, rfl, ?limit⟩, fun hheld hbelow hfaulty => ⟨t, rfl, ?fault⟩⟩⟩
  case bad =>
    rw [hended (s.endWalkAtCard .abridged .badLink k.lastCard) (by simp only [State.fetchCard, h.walkTicket, hbad])]
    simpa only [State.withWalk_of_walk h.walk] using s.endWalkAtCard_stops w .abridged .badLink k.lastCard
  case limit =>
    have hlimit : (w.next != .repeatCard) = true ∧ k.cardLimit ≤ (k.tally .cardsRead).toNat :=
      ⟨by simpa using hcounted, hreached⟩
    rw [hended (s.endWalkAtCard .abridged .runaway k.lastCard)
      (by simp only [State.fetchCard, h.walkTicket, hcard, hlimit, and_self, if_true])]
    simpa only [State.withWalk_of_walk h.walk] using s.endWalkAtCard_stops w .abridged .runaway k.lastCard
  case fault =>
    obtain ⟨j, hj, hfaulty⟩ := hfaulty
    have hfound : (s.hasRead w k m).ram.anyFaulty (32 * m) 8 = true :=
      List.any_eq_true.mpr ⟨j, List.mem_range.mpr hj, (h.hasRead_faulty_of_resolves hheld hcard hj).trans hfaulty⟩
    rw [hended _ ((h.fetchCard_of_card hcard hbelow).trans (if_pos hfound))]
    exact State.endWalkAtCard_memoryFault_stops (s := s.hasRead w k m) h.walk (some m)

theorem State.WalkerReady.stepCard_readsEnd (h : s.WalkerReady w k) (hnext : w.next ≠ .nextIteration) :
    s.readsEnd w k w.link (exec .cardRead s) :=
  h.readsEnd_of_fetch fun u hfetch => by
    simp only [State.stepCard, h.walkReady, hnext, if_false, NextStep.counted_eq hnext, hfetch]

theorem State.WalkerReady.stepIteration_readsEnd (h : s.WalkerReady w k) {f : SpanFrame} (hnext : w.next = .nextIteration)
    (hspan : w.span = some f) (hlink : ∀ b, w.link ≠ .undefinedForm b) : s.readsEnd w k f.body (exec .spanIteration s) :=
  h.readsEnd_of_fetch fun u hfetch => by
    have hcounted : (w.next != .repeatCard) = true := by simp [hnext]
    rw [hcounted] at hfetch
    simp only [State.stepIteration, h.walkReady, hspan, hnext, if_true, Walk.iterationLink_of_named f hlink, hfetch]

end Ready

/-! ## Places from which the walk goes nowhere (R75, R76, R80) -/

theorem Walk.endsLevel_of_outermost {w : Walk} (hstack : w.stack = []) : w.endsLevel = none := by
  cases hspan : w.span <;> simp [Walk.endsLevel, hspan, hstack, Walk.popsTo, Walk.popsInSpan]

theorem Walk.popsTo_of_null (w : Walk) {stack : List Link} (hnull : ∀ l ∈ stack, l = .null) : w.popsTo stack = none := by
  induction stack with
  | nil => rfl
  | cons top rest ih =>
    obtain ⟨htop, hrest⟩ := List.forall_mem_cons.mp hnull
    rw [Walk.popsTo, if_pos htop]
    exact ih hrest

/-- An INCLUDE and an END that end the walk: an INCLUDE too deep or to a bad link, an END of the outermost level, and an
empty INCLUDE that closes it (R75, R76, R83; log 20). -/
theorem State.BeforeCard.stepCard_ends {s : State} {w : Walk} {k : Ticket} {number : Nat}
    (h : s.BeforeCard w k w.link number) (hnext : w.next ≠ .nextIteration) (hbody : w.body = false) :
    let c := s.readCard number
    let code := (c.w0.extractLsb' 0 8).toNat
    let ends := fun (o : TicketOutcome) (r : Reason) (stop : Option Nat) =>
      (s.hasRead w k number).walkStopsAtCard s.stepCard w o r stop 0#9
    (code = 6 → 4 ≤ w.stack.length → ends .abridged .depth (some number))
      ∧ (code = 6 → w.stack.length < 4 → s.resolveLink k.chainBase (linkOfWord c.w8) = .bad →
        ends .abridged .badLink (some number))
      ∧ (code = 8 → w.stack = [] → ends .complete .none none)
      ∧ (code = 6 → w.stack = [] → linkOfWord c.w8 = .null → linkOfWord c.w4 = .null → ends .complete .none none) := by
  intro c code ends
  obtain ⟨-, -, -, -, -, hinclude, -, hend⟩ := h.stepCard_acts hnext hbody
  refine ⟨fun hcode hfull => (hinclude hcode).1 hfull, fun hcode hroom hbad => ((hinclude hcode).2 hroom).2.1 hbad,
    fun hcode hstack => State.walkStopsAtCard_of_reaches ?chainEnd,
    fun hcode hstack htarget hlink => State.walkStopsAtCard_of_reaches ?empty⟩
  case chainEnd => exact Walk.endsLevel_of_outermost hstack ▸ (hend hcode).2 (.inr hbody)
  case empty =>
    have hreaches := ((hinclude hcode).2 (by simp [hstack])).1 htarget
    rwa [Walk.afterward_of_plain hbody, if_pos hlink, Walk.endsLevel_of_outermost hstack] at hreaches

/-- A span that ends at a NULL exit link over a stack of NULLs leaves its walk nowhere to go on (R75, R80; log 19). -/
theorem Walk.leavesSpan_of_null (w : Walk) {g : SpanFrame} (hexit : g.exit = some .null) {stack : List Link}
    (hnull : ∀ l ∈ stack, l = .null) : w.leavesSpan g stack = none := by
  simp only [Walk.leavesSpan, SpanFrame.exitLink, hexit, Option.getD_some, if_true, w.popsTo_of_null hnull]

end Sys2Proof.Machine

namespace Sys2Proof.MemoryLayouts
open Sys2Proof.Machine

/-- Settles O53: the eight words hold each part of a walk at its place, a boundary parks the walk or drops the request, and
each end of a walk is one that the read, the card or the place it leaves brings about. -/
theorem walkContextsSurviveParking : Obligations.WalkContextsSurviveParking := by
  refine ⟨?words, ?boundary, ?ends⟩
  case words =>
    intro n w hfits a
    have ⟨hstack, _, _, hranges⟩ := hfits
    refine ⟨walkOfResume_resumeWords hfits n, w.resumeWords_length, w.resumeWords_link, ?next,
      Walk.resumeWords_depth hstack, w.resumeWords_present, fun j hj => Walk.resumeWords_stack hstack hj,
      fun f hspan => ?span⟩
    case next => exact w.resumeWords_next.trans (by cases w.next <;> rfl)
    case span =>
      obtain ⟨hstart, hremaining, hstride, hcurrent, hdepth⟩ := hranges f hspan
      obtain ⟨-, -, huntil, hdepartment, hexit⟩ := Walk.spanMarks_of_some hspan
      exact ⟨Walk.resumeWords_spanDepth hspan hdepth, (w.resumeWords_mark 4).trans huntil,
        (w.resumeWords_mark 5).trans hdepartment, (w.resumeWords_mark 6).trans hexit,
        Walk.resumeWords_remaining hspan hremaining, Walk.resumeWords_body hspan, Walk.resumeWords_stride hspan hstride,
        fun _ => Walk.resumeWords_exit hspan, fun _ => Walk.resumeWords_startDepartment hspan,
        Walk.resumeWords_start hspan hstart, Walk.resumeWords_current hspan hcurrent⟩
  case boundary =>
    intro s w k number h hnext hbody hend hpark hrising c next u j marked hcode hlink
    have hreaches := h.mark_reaches hnext hbody hcode
    rw [Walk.afterward_of_plain hbody, if_neg hlink] at hreaches
    simp only [State.reaches, hend] at hreaches
    obtain ⟨hlapses, hparks⟩ := hreaches.2 hpark (rising_put _ _ hrising)
    have hwaits : marked.urgentWaits ↔ s.urgentWaits :=
      State.urgentWaits_put (j := j) h.ready.ticket rfl rfl rfl
    exact ⟨fun hnone => congrArg Host.Outcome.next (hlapses (mt hwaits.mp hnone)),
      fun hsome => ⟨_, rfl, hparks j (hwaits.mpr hsome) (assocFind_put_self _ _ _)⟩⟩
  case ends =>
    intro s w k hready
    refine ⟨fun hnext => ⟨hready.stepCard_readsEnd hnext, ?card⟩,
      fun f hnext hspan hlink => ⟨hready.stepIteration_readsEnd hnext hspan hlink, ?span⟩⟩
    case card =>
      intro number h hbody c code ends
      obtain ⟨hdeep, hbad, hend, hempty⟩ := h.stepCard_ends hnext hbody
      exact ⟨fun hcode hfull => ⟨_, rfl, hdeep hcode hfull⟩,
        fun hcode hroom htarget => ⟨_, rfl, hbad hcode hroom htarget⟩,
        fun hcode hstack => ⟨_, rfl, hend hcode hstack⟩,
        fun hcode hstack htarget hlink => ⟨_, rfl, hempty hcode hstack htarget hlink⟩⟩
    case span =>
      intro number h hbeyond hexit hnull
      obtain ⟨hread, -, -⟩ := ChangeChains.spanIterationsTestTheIndex
      obtain ⟨t, ht, hreaches⟩ := (hread s w k f number h hnext hspan hlink).2 hbeyond
      rw [w.leavesSpan_of_null (congrArg some hexit) hnull] at hreaches
      exact ⟨t, ht, State.walkStopsAtCard_of_reaches hreaches⟩

end Sys2Proof.MemoryLayouts
end

section
/-! The step of a part with a command waiting (00_scope.md, How the Blocks Work Together; log 1). -/

namespace Sys2Proof.Machine

theorem step_of_pending {c : Instr} {rest : List Instr} {s : State} (h : s.pending = c :: rest) :
    step s = exec c (s.withPending rest) := by simp only [step, h]

/-- Settles O1: the command at the front runs on the state whose queue is the rest. -/
theorem stepRunsFrontCommand : Obligations.StepRunsFrontCommand :=
  fun _ _ _ hqueue => step_of_pending hqueue

end Sys2Proof.Machine
end
